-- ==== Sys2Proof/Word.lean ====
section
/-! DEFINITION. The word types of the Tandolo 2416: the byte of its three serial lines, the words its frames and
records carry, and the station number. Nothing else stands here: every byte-order and check helper is in
Machine/Operands.lean. -/

namespace Sys2Proof

/-- One byte of the host port, the rig link or the drive line (R195). -/
abbrev Byte := BitVec 8

/-- One drive sample as it travels and as the Sample Store holds it: 16 bits, two's complement (R1, R195). -/
abbrev Sample := BitVec 16

/-- A station number, 0..23 (0.4, R123). -/
abbrev StationNo := Fin 24

/-- A set of the ten hold reasons, bit k the k-th reason of the table of R64 (R195). -/
abbrev ReasonSet := BitVec 10

/-- A set of the fifteen events, bit k the k-th event of the table of R181 (R195). -/
abbrev EventBits := BitVec 15

/-- A set of the eight amplifier status conditions, bit k the k-th condition of the table of R154 (R195). -/
abbrev AmpStatus := BitVec 8

end Sys2Proof
end

