-- ==== Sys2Proof/Syntax.lean ====
section
/-! DEFINITION. The commands of the station: one constructor of Instr for every row of spec/opcode_table.json, with the
operands that the row's request, frame, byte or line event carries; and the records those operands are made of. An
operand is held as the bits that travel (R195 to R200), so that a command may also carry values that a rule refuses. -/

namespace Sys2Proof

/-- The CONFIGURE record as it travels: the 32 fields of R187 in the widths of R197, not yet checked. -/
structure ConfigRecord where
  stationNumber   : BitVec 8
  group           : BitVec 8
  role            : BitVec 8
  expectedPeers   : BitVec 24
  sampleRate      : BitVec 16
  beatInterval    : BitVec 8
  fadeLength      : BitVec 16
  levelStep       : BitVec 16
  initialLevel    : BitVec 16
  commandMin      : BitVec 16
  commandMax      : BitVec 16
  holdOffset      : BitVec 16
  rateLimit       : BitVec 16
  slipLimit       : BitVec 8
  forceMin        : BitVec 16
  forceMax        : BitVec 16
  dispMin         : BitVec 16
  dispMax         : BitVec 16
  trackingLimit   : BitVec 16
  trackingCount   : BitVec 8
  weight          : BitVec 16
  groupLimit      : BitVec 32
  tripMask        : BitVec 8
  holdMask        : BitVec 8
  refreshInterval : BitVec 8
  gainEnable      : BitVec 8
  threshold       : BitVec 16
  hysteresis      : BitVec 16
  lowWord         : BitVec 32
  highWord        : BitVec 32
  attentionMask   : BitVec 16
  reportInterval  : BitVec 8
  deriving DecidableEq, Repr

/-- The fields of a BEAT frame as they travel (R198). -/
structure BeatFields where
  state       : BitVec 8
  group       : BitVec 8
  flags       : BitVec 8
  fingerprint : BitVec 16
  pass        : BitVec 16
  whole       : BitVec 32
  fraction    : BitVec 16
  reasons     : BitVec 16
  share       : BitVec 24
  deriving DecidableEq, Repr

/-- A frame that fails a check of R133, as the line carried it: the bytes from its start until the line fell idle, and whether
another station drove it (R131, R133). The second tells, after this station has aborted, the cut-short end of its own frame from
a frame that another station drives on to its end; log entries 21 and 35. -/
structure DroppedFrame where
  bytes        : List Byte
  otherDriving : Bool
  deriving DecidableEq, Repr

/-- The sender of a rig link frame as a delivery names it: the station number of its key, and the mark saying whether it is the
frame that this station has itself completed (R99, R135; log entry 16). -/
structure Sender where
  number : StationNo
  bySelf : Bool
  deriving DecidableEq, Repr

/-- A frame completed by the host port's receiver (R172, R173): over-long, of which only the kind byte is kept, or
whole, with its kind, its payload (whose length is the length byte) and the CRC it carried. -/
inductive HostFrame where
  | overLong (kind : Byte)
  | whole (kind : Byte) (payload : List Byte) (crc : BitVec 16)
  deriving DecidableEq, Repr

/-- A request of the table of 9.4 with its arguments, as check 4 of R176 lets it through. -/
inductive Request where
  | identify
  | configure (record : ConfigRecord)
  | segmentOpen (id : BitVec 8) (length : BitVec 32) (expected : BitVec 16)
  | segmentData (id : BitVec 8) (part : BitVec 32) (samples : List Sample)
  | segmentDiscard (id : BitVec 8)
  | segmentInfo (id : BitVec 8)
  | playlistAppend (id : BitVec 8) (repeats : BitVec 16) (wait : BitVec 8)
  | playlistClear
  | playlistRead (index : BitVec 8)
  | schedulePasses (passes : BitVec 16)
  | arm
  | disarm
  | start (position : Option (BitVec 32 × BitVec 48))
  | hold
  | resume
  | acknowledge (reasons : BitVec 16)
  | abort
  | clearTrip
  | setLevel (target : BitVec 16)
  | sideSend (word : BitVec 32)
  | sideRead
  | status
  | peerRead (number : BitVec 8)
  | eventsRead
  | eventsClear (events : BitVec 16)
  | reportRate (n : BitVec 8)
  | stationReset
  deriving DecidableEq, Repr

/-- The commands: one constructor per row of spec/opcode_table.json, in the table's order. The 27 host requests carry
their arguments. The events of the station's own counters carry nothing but, for PEER_STALE, the entry's number.
UPDATE carries the 48 bits that the amplifier clocks in during slot A and during slot B (byte 0 of R200 uppermost);
they are used only if the slot makes a transfer. A rig link frame comes with its sender and its fields. -/
inductive Instr where
  | identify
  | configure (record : ConfigRecord)
  | segmentOpen (id : BitVec 8) (length : BitVec 32) (expected : BitVec 16)
  | segmentData (id : BitVec 8) (part : BitVec 32) (samples : List Sample)
  | segmentDiscard (id : BitVec 8)
  | segmentInfo (id : BitVec 8)
  | playlistAppend (id : BitVec 8) (repeats : BitVec 16) (wait : BitVec 8)
  | playlistClear
  | playlistRead (index : BitVec 8)
  | schedulePasses (passes : BitVec 16)
  | arm
  | disarm
  | start (position : Option (BitVec 32 × BitVec 48))
  | holdRequest
  | resumeRequest
  | acknowledge (reasons : BitVec 16)
  | abort
  | clearTrip
  | setLevel (target : BitVec 16)
  | sideSend (word : BitVec 32)
  | sideRead
  | status
  | peerRead (number : BitVec 8)
  | eventsRead
  | eventsClear (events : BitVec 16)
  | reportRate (n : BitVec 8)
  | stationReset
  | stationResetEffect
  | hostFrameRefused (frame : HostFrame)
  | hostByte (b : Byte)
  | partialFrameTimeout
  | transmitterFrameSent
  | reportDue
  | update (inA inB : BitVec 48)
  | trackCountReached
  | driveSilence
  | countdownExpiry
  | endOfRampIn
  | endOfRampOut
  | peerStale (number : StationNo)
  | beatInstant
  | idlePoint
  | arbitrationLost
  | attemptAborted
  | consecutiveAbortLimit
  | attemptCompleted
  | frameDropped (frame : DroppedFrame)
  | beatFrame (sender : Sender) (fields : BeatFields)
  | goFrame (sender : Sender) (fingerprint : BitVec 16) (pass : BitVec 32) (whole : BitVec 48)
  | holdFrame (sender : Sender) (reasons : BitVec 16)
  | resumeFrame (sender : Sender) (fingerprint : BitVec 16) (pass : BitVec 32) (whole : BitVec 48)
  | tripFrame (sender : Sender) (cause : BitVec 8)
  | estopActive
  | estopInactive
  | powerOn
  | resetLineActive
  | resetLineInactive
  | powerOff
  deriving DecidableEq, Repr

end Sys2Proof
end

