-- ==== Sys2Proof/Decode.lean ====
section
/-! DEFINITION. Commands as words of the opcode table. The table gives bits to none of its rows: a command of this block is
a request, a frame or a line event, so no word spells one. Frames as bytes are read in Machine/HostFrames.lean and
Machine/Link.lean. -/

namespace Sys2Proof

/-- The command that a word of the opcode table spells: none, since no row of the table has bits. -/
def decodeTableWord (_nbits _w : Nat) : Option Instr := none

end Sys2Proof
end

