-- ==== Sys2Proof/Config.lean ====
section
/-! DEFINITION. What the part fixes and the spec does not state: the design revision of IDENTIFY. It is opaque, so no
proof can lean on its value. -/

namespace Sys2Proof

/-- The design revision less one: R192 gives the revision the range 1..255 and says that it is fixed in the part, and
states no value. FREE VALUE (log entry 18). -/
opaque Config.revisionLessOne : Fin 255

/-- The design revision of IDENTIFY, 1..255 (R192). -/
def Config.designRevision : Nat := Config.revisionLessOne.val + 1

end Sys2Proof
end

