-- ==== Sys2Proof/Machine/State.lean ====
section
/-! DEFINITION. The state of the Tandolo 2416 as plain data: one structure per block of 0.3.1, holding every item the
spec gives the block, and the values after power-on. An item the spec calls absent is an Option. -/

namespace Sys2Proof.Machine

/-! ### The named values of the blocks -/

/-- The station states (R62); the two kinds of RAMP-OUT are two values, as BEATs and STATUS show them (R195). -/
inductive Mode where
  | unconfigured | idle | armed | countdown | rampIn | playing | rampOutMoving | rampOutParked | held | ending | complete | tripped
  deriving DecidableEq, Repr

/-- The hold reasons, in the order of the table of R64. -/
inductive HoldReason where
  | host | peer | wait | window | track | amp | slip | lost | group | link
  deriving DecidableEq, Repr

/-- The trip causes (R90). -/
inductive TripCause where
  | estop | amp | driveSilent | peerTrip | host
  deriving DecidableEq, Repr

/-- The events, in the order of the table of R181. -/
inductive Event where
  | segmentReady | segmentBad | state | hold | trip | sideDone | clamp | rate | peerJoined | peerLost | linkError | clash | pass | estop | driveSilent
  deriving DecidableEq, Repr

/-- The result codes, in the order of the table of R177. -/
inductive ResultCode where
  | ok | busy | badState | badArg | noSpace | noSegment | outOfOrder | full | notReady | locked | unknown | length | badCheck
  deriving DecidableEq, Repr

/-- How the station last came into UNCONFIGURED (R192). -/
inductive StartKind where
  | hard | soft
  deriving DecidableEq, Repr

/-- The park mark of a position (R27). -/
inductive Park where
  | none | wait | finish
  deriving DecidableEq, Repr

/-- A window result (R162). -/
inductive WindowResult where
  | below | inside | above
  deriving DecidableEq, Repr

/-- The band of the gain schedule (R150). -/
inductive Band where
  | low | high
  deriving DecidableEq, Repr

/-- The previous transfer kind (R139). -/
inductive TransferKind where
  | none | command | side | auto
  deriving DecidableEq, Repr

/-! ### The Sample Store and the Segment Table (chapter 1) -/

/-- The Sample Store: (linear index, sample) pairs in one canonical form, indexes strictly rising below 4,194,304 and
no listed sample equal to what an unlisted index reads as (R1; log entry 4). -/
abbrev Store := List (Nat × Sample)

/-- What a record that is not EMPTY holds in every state (R3). -/
structure SegmentBody where
  firstPage : Nat
  pageCount : Nat
  length    : Nat
  expected  : BitVec 16
  computed  : BitVec 16
  deriving DecidableEq, Repr

/-- A segment record (R3). Only LOADING has a count of samples received of its own and a next part index: in READY and
BAD the samples received equal the length and the next part index is absent; in EMPTY every field is absent. -/
inductive Segment where
  | empty
  | loading (body : SegmentBody) (received nextPart : Nat)
  | ready (body : SegmentBody)
  | bad (body : SegmentBody)
  deriving DecidableEq, Repr

/-! ### The Schedule and the Replay Engine (chapters 2 and 3) -/

/-- A playlist entry (R20). -/
structure Entry where
  segment : Nat
  repeats : Nat
  wait    : Bool
  deriving DecidableEq, Repr

/-- The tables frozen at ARM: the start of each entry, the pass length L and the fingerprint (R25, R26). -/
structure Tables where
  starts      : List Nat
  passLength  : Nat
  fingerprint : BitVec 16
  deriving DecidableEq, Repr

/-- The Schedule: the playlist, the pass count P, and the frozen tables while they exist (R20, R24, R25). -/
structure Schedule where
  playlist : List Entry
  passes   : Nat
  tables   : Option Tables
  deriving DecidableEq, Repr

/-- A position (R27). -/
structure Position where
  pass     : Nat
  whole    : Nat
  fraction : Nat
  park     : Park
  deriving DecidableEq, Repr

/-- The end of a fade that the Replay Engine has reported and the Station Controller has not yet taken: the change of
state is in force from the next update (R39, R49, R50; log entry 6). -/
inductive FadeEnd where
  | rampIn | rampOut
  deriving DecidableEq, Repr

/-- The items of R37 that are absent until CONFIGURE, but for the position. -/
structure EngineRegs where
  increment   : Nat
  fade        : Nat
  level       : Nat
  target      : Nat
  command     : Int
  commandPrev : Int
  deriving DecidableEq, Repr

/-- The value offered to the Drive Line Interface and the c_prev offered with it (R57). -/
structure Offer where
  command  : Int
  previous : Int
  deriving DecidableEq, Repr

/-- The Replay Engine (R37), with the standing offer of R57 and the reported end of a fade. -/
structure ReplayEngine where
  position   : Option Position
  regs       : Option EngineRegs
  clampCount : Nat
  rateCount  : Nat
  offered    : Option Offer
  fadeEnd    : Option FadeEnd
  deriving DecidableEq, Repr

/-! ### The Station Controller (chapter 4) -/

/-- The hold record (R67). -/
structure HoldRecord where
  first    : HoldReason
  origin   : StationNo
  pass     : Nat
  whole    : Nat
  fraction : Nat
  deriving DecidableEq, Repr

/-- The trip record (R90). -/
structure TripRecord where
  cause    : TripCause
  origin   : StationNo
  state    : Mode
  position : Position
  deriving DecidableEq, Repr

/-- The Station Controller (R62, R64, R67, R78, R90, R96, R97). -/
structure Controller where
  mode       : Mode
  reasons    : ReasonSet
  holdRecord : Option HoldRecord
  tripRecord : Option TripRecord
  countdown  : Option Nat
  clash      : Bool
  permit     : Bool
  deriving DecidableEq, Repr

/-! ### The Peer Table (chapter 5) -/

/-- What the latest control frame from a peer was, with its detail (R98, R101); a GO has none. -/
inductive ControlSeen where
  | go
  | hold (reasons : ReasonSet)
  | resume (pass whole : Nat)
  | trip (cause : BitVec 8)
  deriving DecidableEq, Repr

/-- The last control kind, detail and age of a peer entry (R98). -/
structure LastControl where
  seen : ControlSeen
  age  : Nat
  deriving DecidableEq, Repr

/-- The schedule fields of a peer's BEAT, absent together when its schedule mark is clear (R98, R199). -/
structure PeerSchedule where
  fingerprint : BitVec 16
  pass        : Nat
  whole       : Nat
  fraction    : Nat
  deriving DecidableEq, Repr

/-- A peer entry (R98). -/
structure PeerEntry where
  state       : Mode
  group       : Nat
  schedule    : Option PeerSchedule
  holdFlag    : Bool
  reasons     : ReasonSet
  share       : Int
  age         : Nat
  fresh       : Bool
  runMark     : Bool
  lastControl : Option LastControl
  deriving DecidableEq, Repr

/-- The sync set size k, the median m and the trim t of the last trim (R117). -/
structure TrimResult where
  size   : Nat
  median : Int
  trim   : Int
  deriving DecidableEq, Repr

/-- The Peer Table: at most one entry for each station number (R98), and the own record (R98, R102, R103, R117 to
R119). beatDue and tickTaken are the MODEL's own marks: a beat instant that has fallen and whose work is not yet
taken, and a tick of the table taken ahead of its UPDATE (R41, R103; log entry 7). -/
structure PeerTable where
  entries     : Vector (Option PeerEntry) 24
  ownShare    : Int
  beatCounter : Option Nat
  lastTrim    : Option TrimResult
  groupSum    : Option Int
  beatDue     : Bool
  tickTaken   : Bool
  deriving DecidableEq, Repr

/-! ### The Rig Link Interface (chapter 6) -/

/-- The fields of a rig link frame, by kind (R198). -/
inductive FrameBody where
  | trip (cause : BitVec 8)
  | go (fingerprint : BitVec 16) (pass : BitVec 32) (whole : BitVec 48)
  | hold (reasons : BitVec 16)
  | resume (fingerprint : BitVec 16) (pass : BitVec 32) (whole : BitVec 48)
  | beat (fields : BeatFields)
  deriving DecidableEq, Repr

/-- A rig link frame: the sender's number, which its key carries, and its kind and fields (R123). -/
structure RigFrame where
  sender : StationNo
  body   : FrameBody
  deriving DecidableEq, Repr

/-- A filled TRIP or CONTROL slot: the frame's fields, fixed when it was placed, and whether the attempt under way
latched this very frame (R125, R130). -/
structure SlotFrame where
  body    : FrameBody
  latched : Bool
  deriving DecidableEq, Repr

/-- The three transmit slots (R125). -/
inductive SlotName where
  | trip | control | beat
  deriving DecidableEq, Repr

/-- An attempt under way: the slot chosen and the frame as latched (R129, R130). -/
structure Attempt where
  slot  : SlotName
  frame : RigFrame
  deriving DecidableEq, Repr

/-- The Rig Link Interface (R125, R129, R132, R134). ownEnded is a frame that this station has completed and whose
delivery to itself has not yet been taken (R129, R135, R136). ownAborted says that the frame now on the line is one of its
own that it has aborted, so that it does not count its cut-short end (R131; log entry 35). -/
structure RigLink where
  tripSlot    : Option SlotFrame
  controlSlot : Option SlotFrame
  beatSlot    : Bool
  aborts      : Nat
  linkErrors  : Nat
  attempt     : Option Attempt
  ownEnded    : Option RigFrame
  ownAborted  : Bool
  deriving DecidableEq, Repr

/-! ### The Drive Line Interface and the Supervision Unit (chapters 7 and 8) -/

/-- A datagram on the drive line: whether its framing marks it COMMAND, and its 32 bits (R141, R200). -/
structure Datagram where
  isCommand : Bool
  word      : BitVec 32
  deriving DecidableEq, Repr

/-- The Drive Line Interface (R139). outA and outB are what slot A and slot B of the latest update clocked out. -/
structure DriveLine where
  lastSent     : Option Int
  refresh      : Option Nat
  previousKind : TransferKind
  answered     : Option Int
  sideQueue    : List (BitVec 32)
  autoSlot     : Option (BitVec 32)
  band         : Option Band
  force        : Option Int
  displacement : Option Int
  ampStatus    : Option AmpStatus
  sideReply    : Option (BitVec 32)
  newMark      : Bool
  sideLoss     : Nat
  silence      : Option Nat
  outA         : Option Datagram
  outB         : Option Datagram
  deriving DecidableEq, Repr

/-- The Supervision Unit (R157). -/
structure Supervision where
  trackCount     : Nat
  forceWindow    : Option WindowResult
  dispWindow     : Option WindowResult
  lastError      : Option Int
  lastApplied    : Option Bool
  trippingStatus : Option AmpStatus
  estopTaken     : Option Bool
  deriving DecidableEq, Repr

/-! ### The Host Port and the Event Set (chapter 9) -/

/-- The receiver (R171): HUNTING, or COLLECTING with the bytes of the frame so far, the start byte first. -/
inductive Receiver where
  | hunting
  | collecting (bytes : List Byte)
  deriving DecidableEq, Repr

/-- A frame the station sends on the host port: its kind, the result code that opens its payload, and the fields that
follow (R177, R186). -/
structure HostReply where
  kind : Byte
  code : ResultCode
  body : List Byte
  deriving DecidableEq, Repr

/-- The Host Port (R171). byteSeen says whether a byte has come since the last update (R174). reportTaken is the
MODEL's own mark: the report timer's count of the coming UPDATE has been taken by REPORT_DUE (log entry 8). -/
structure HostPort where
  receiver       : Receiver
  partialTimer   : Option Nat
  byteSeen       : Bool
  buffers        : List HostFrame
  reply          : Option HostReply
  busy           : List Byte
  overrun        : Nat
  sending        : Option HostReply
  reportInterval : Option Nat
  reportTimer    : Option Nat
  reportPending  : Bool
  reportTaken    : Bool
  deriving DecidableEq, Repr

/-- The Event Set and the ATTENTION output (R181, R184). -/
structure EventSet where
  latched   : EventBits
  mask      : Option EventBits
  attention : Bool
  deriving DecidableEq, Repr

/-! ### The station -/

/-- The station: its supply and input lines, its start kind, its configuration (the record as accepted, R191), and its
eleven blocks. cutLoadings is the Segment Table's memory, for each id, that the record it last discarded was LOADING (R13; log
entry 29). -/
structure Station where
  power       : Bool
  resetLine   : Bool
  estopLine   : Bool
  startKind   : StartKind
  config      : Option ConfigRecord
  store       : Store
  segments    : Vector Segment 64
  cutLoadings : Vector Bool 64
  schedule    : Schedule
  engine      : ReplayEngine
  ctl         : Controller
  peers       : PeerTable
  link        : RigLink
  drive       : DriveLine
  sup         : Supervision
  port        : HostPort
  events      : EventSet
  deriving DecidableEq, Repr

/-- The Schedule after every reset (R36). -/
def Schedule.reset : Schedule := { playlist := [], passes := 1, tables := none }

/-- The Replay Engine after every reset (R37, R61). -/
def ReplayEngine.reset : ReplayEngine :=
  { position := none, regs := none, clampCount := 0, rateCount := 0, offered := none, fadeEnd := none }

/-- The Station Controller after every reset (R97). -/
def Controller.reset : Controller :=
  { mode := .unconfigured, reasons := 0, holdRecord := none, tripRecord := none, countdown := none, clash := false, permit := false }

/-- The Peer Table after every reset (R122). -/
def PeerTable.reset : PeerTable :=
  { entries := Vector.replicate 24 none, ownShare := 0, beatCounter := none, lastTrim := none, groupSum := none,
    beatDue := false, tickTaken := false }

/-- The Rig Link Interface after every reset (R125, R132, R134, R137). -/
def RigLink.reset : RigLink :=
  { tripSlot := none, controlSlot := none, beatSlot := false, aborts := 0, linkErrors := 0, attempt := none, ownEnded := none,
    ownAborted := false }

/-- The Drive Line Interface after every reset (R139, R156). -/
def DriveLine.reset : DriveLine :=
  { lastSent := none, refresh := none, previousKind := .none, answered := none, sideQueue := [], autoSlot := none, band := none,
    force := none, displacement := none, ampStatus := none, sideReply := none, newMark := false, sideLoss := 0, silence := none,
    outA := none, outB := none }

/-- The Supervision Unit after every reset (R157). -/
def Supervision.reset : Supervision :=
  { trackCount := 0, forceWindow := none, dispWindow := none, lastError := none, lastApplied := none, trippingStatus := none,
    estopTaken := none }

/-- The Host Port after every reset (R171). -/
def HostPort.reset : HostPort :=
  { receiver := .hunting, partialTimer := none, byteSeen := false, buffers := [], reply := none, busy := [], overrun := 0,
    sending := none, reportInterval := none, reportTimer := none, reportPending := false, reportTaken := false }

/-- The Event Set after every reset (R181, R184). -/
def EventSet.reset : EventSet := { latched := 0, mask := none, attention := false }

/-- The station at power-on: UNCONFIGURED, start kind HARD, every record EMPTY (R18, R192, R193). The supply is on, and
RESET and ESTOP are inactive (log entry 3); the store lists nothing (log entry 4). -/
def Station.reset : Station :=
  { power := true, resetLine := false, estopLine := false, startKind := .hard, config := none, store := [],
    segments := Vector.replicate 64 .empty, cutLoadings := Vector.replicate 64 false, schedule := .reset, engine := .reset,
    ctl := .reset, peers := .reset, link := .reset, drive := .reset, sup := .reset, port := .reset, events := .reset }

/-- The machine: the commands that wait, first in, first out, and the station. The queue is the MODEL's own. -/
structure State where
  pending : List Instr
  station : Station
  deriving DecidableEq, Repr

/-- The machine right after power-on: no command waits, and the station holds its power-on values (R193). -/
def State.reset : State := { pending := [], station := .reset }

/-- Why a step stops with a fault. The spec describes no condition that stops the station: every command has an effect,
a refusal that is answered, or no effect. So there is no fault, and none can be raised. -/
inductive Fault where
  deriving DecidableEq, Repr

/-- Why a command is refused by the model. -/
inductive Refusal where
  /-- Raised only by an arm of exec whose command has no meaning yet; safe, since the machine stops. No arm raises it. -/
  | notModelled (mnemonic : String)
  deriving DecidableEq, Repr

end Sys2Proof.Machine
end

