-- ==== Sys2Proof/Machine/Operands.lean ====
section
/-! DEFINITION. What the fields of the three lines are made of: byte orders, the two CRCs, the coded values of chapter 11,
the roundings of 0.5, and the configured values that the fields of the CONFIGURE record stand for. -/

namespace Sys2Proof.Machine

/-! ### Byte orders (R195) -/

/-- The n bytes of a value, least significant first: the host port's order (R195). -/
def leBytes : Nat → Nat → List Byte
  | 0, _ => []
  | n + 1, v => BitVec.ofNat 8 v :: leBytes n (v / 256)

/-- The n bytes of a value, most significant first: the rig link's and the drive line's order (R195). -/
def beBytes (n v : Nat) : List Byte := (leBytes n v).reverse

/-- The n bytes of a signed value, two's complement, least significant first (R195). -/
def leSigned (n : Nat) (v : Int) : List Byte := leBytes n (v % (256 ^ n : Nat)).toNat

/-- The value of bytes that came least significant first (R195). -/
def ofLe : List Byte → Nat
  | [] => 0
  | b :: rest => b.toNat + 256 * ofLe rest

/-- The value of bytes that came most significant first (R195). -/
def ofBe (bytes : List Byte) : Nat := ofLe bytes.reverse

/-- The field of n bytes at an offset of a host payload (R195, R197). -/
def fieldAt (payload : List Byte) (offset n : Nat) : Nat := ofLe ((payload.drop offset).take n)

/-- A field that may be absent, in n bytes: a presence byte, then the value or zeros (R196). -/
def leOptional (n : Nat) : Option Nat → List Byte
  | none => 0 :: leBytes n 0
  | some v => 1 :: leBytes n v

/-- A signed field that may be absent, in n bytes (R196). -/
def leOptionalSigned (n : Nat) : Option Int → List Byte
  | none => 0 :: leBytes n 0
  | some v => 1 :: leSigned n v

/-- A two-valued field in one byte (R195). -/
def boolByte (b : Bool) : Byte := if b then 1 else 0

/-! ### The checks (R201, R202) -/

/-- One shift of the CRC-16 register: combined with $1021 when a 1 is carried out of bit 15 (R201). -/
def crc16Shift (r : BitVec 16) : BitVec 16 := if r.msb then (r <<< 1) ^^^ 0x1021#16 else r <<< 1

/-- One byte of the CRC-16: into the high eight bits, then eight shifts (R201). -/
def crc16Byte (r : BitVec 16) (b : Byte) : BitVec 16 := Nat.repeat crc16Shift 8 (r ^^^ (b.setWidth 16 <<< 8))

/-- The CRC-16 over bytes in order, from an initial value (R201). -/
def crc16 (initial : BitVec 16) (bytes : List Byte) : BitVec 16 := bytes.foldl crc16Byte initial

/-- The initial value of the host frame CRC, the segment checksum and the fingerprint (R201). -/
def crcInitHost : BitVec 16 := 0xFFFF#16

/-- The initial value of the rig link CRC (R123, R201). -/
def crcInitLink : BitVec 16 := 0x0000#16

/-- One shift of the CRC-8 register: combined with $07 when a 1 is carried out (R202). -/
def crc8Shift (r : BitVec 8) : BitVec 8 := if r.msb then (r <<< 1) ^^^ 0x07#8 else r <<< 1

/-- One byte of the CRC-8 (R202). -/
def crc8Byte (r b : Byte) : BitVec 8 := Nat.repeat crc8Shift 8 (r ^^^ b)

/-- The drive line check byte over the data bytes of a response (R202). -/
def crc8 (bytes : List Byte) : BitVec 8 := bytes.foldl crc8Byte 0xFF#8

/-- The two bytes a sample gives to the segment checksum: low byte, then high byte (R11). -/
def sampleBytes (x : Sample) : List Byte := leBytes 2 x.toNat

/-! ### Coded values (R195) -/

/-- The code of a station state (R195). -/
def Mode.code : Mode → Nat
  | .unconfigured => 0 | .idle => 1 | .armed => 2 | .countdown => 3 | .rampIn => 4 | .playing => 5 | .rampOutMoving => 6
  | .rampOutParked => 7 | .held => 8 | .ending => 9 | .complete => 10 | .tripped => 11

/-- The state a received BEAT's state code shows: a code of 0 or above 11 is entered as IDLE (R195, R199). -/
def Mode.ofBeatCode (c : BitVec 8) : Mode :=
  match c.toNat with
  | 2 => .armed | 3 => .countdown | 4 => .rampIn | 5 => .playing | 6 => .rampOutMoving | 7 => .rampOutParked
  | 8 => .held | 9 => .ending | 10 => .complete | 11 => .tripped | _ => .idle

/-- The number of a hold reason's bit in the set (R195). -/
def HoldReason.code : HoldReason → Nat
  | .host => 0 | .peer => 1 | .wait => 2 | .window => 3 | .track => 4 | .amp => 5 | .slip => 6 | .lost => 7 | .group => 8 | .link => 9

/-- The code of a trip cause (R195). -/
def TripCause.code : TripCause → Nat
  | .estop => 0 | .amp => 1 | .driveSilent => 2 | .peerTrip => 3 | .host => 4

/-- The number of an event's bit in the set (R195). -/
def Event.code : Event → Nat
  | .segmentReady => 0 | .segmentBad => 1 | .state => 2 | .hold => 3 | .trip => 4 | .sideDone => 5 | .clamp => 6 | .rate => 7
  | .peerJoined => 8 | .peerLost => 9 | .linkError => 10 | .clash => 11 | .pass => 12 | .estop => 13 | .driveSilent => 14

/-- The code of a result (R195). -/
def ResultCode.code : ResultCode → Nat
  | .ok => 0 | .busy => 1 | .badState => 2 | .badArg => 3 | .noSpace => 4 | .noSegment => 5 | .outOfOrder => 6 | .full => 7
  | .notReady => 8 | .locked => 9 | .unknown => 10 | .length => 11 | .badCheck => 12

/-- The code of a park mark (R195). -/
def Park.code : Park → Nat
  | .none => 0 | .wait => 1 | .finish => 2

/-- The code of a segment state (R195). -/
def Segment.code : Segment → Nat
  | .empty => 0 | .loading .. => 1 | .ready _ => 2 | .bad _ => 3

/-- The code of a window result (R195). -/
def WindowResult.code : WindowResult → Nat
  | .below => 0 | .inside => 1 | .above => 2

/-- The code of a band (R195). -/
def Band.code : Band → Nat
  | .low => 0 | .high => 1

/-- The code of a start kind (R195). -/
def StartKind.code : StartKind → Nat
  | .hard => 0 | .soft => 1

/-- The code of a last control kind (R195). -/
def ControlSeen.code : ControlSeen → Nat
  | .go => 0 | .hold _ => 1 | .resume .. => 2 | .trip _ => 3

/-- A code in one byte (R196). -/
def codeByte (c : Nat) : Byte := BitVec.ofNat 8 c

/-! ### Roundings (0.5) -/

/-- n ÷ d rounded to the nearest integer, a value exactly halfway going away from zero (0.5); d is not 0. -/
def roundDiv (n : Int) (d : Nat) : Int :=
  if 0 ≤ n then (2 * n + d) / (2 * d) else -((2 * (-n) + d) / (2 * d))

/-- A value held within a..b (0.5: clamped). -/
def clampInt (low high x : Int) : Int := if x < low then low else if high < x then high else x

/-- ceil(a ÷ b) of naturals; b is not 0. -/
def ceilDiv (a b : Nat) : Nat := (a + b - 1) / b

/-! ### The configured values (R187, R197) -/

/-- The station's own number, which it places in the key of every frame (R123, R187). -/
def own (cfg : ConfigRecord) : StationNo := Fin.ofNat 24 cfg.stationNumber.toNat

/-- Whether a station number names an expected peer: it is in the configured set and is not the own number (5.3, R187). -/
def expects (cfg : ConfigRecord) (k : StationNo) : Bool := cfg.expectedPeers.getLsbD k.val && k != own cfg

/-- The expected peers in ascending order of station number (R106). -/
def expectedPeers (cfg : ConfigRecord) : List StationNo := (List.finRange 24).filter (expects cfg)

/-- The nominal increment N = R × 16 (R37). -/
def nominal (cfg : ConfigRecord) : Nat := cfg.sampleRate.toNat * 16

/-- The hold offset O (R53). -/
def offset (cfg : ConfigRecord) : Int := cfg.holdOffset.toInt

/-- The lower command limit Cmin (R53). -/
def cMin (cfg : ConfigRecord) : Int := cfg.commandMin.toInt

/-- The upper command limit Cmax (R53). -/
def cMax (cfg : ConfigRecord) : Int := cfg.commandMax.toInt

/-- The fade step Δ = max(1, floor(32768 ÷ fade length)) (R48). -/
def fadeStep (cfg : ConfigRecord) : Nat := max 1 (32768 / cfg.fadeLength.toNat)

/-- The silence limit of peers, 4 × the beat interval (R100). -/
def silenceLimit (cfg : ConfigRecord) : Nat := 4 * cfg.beatInterval.toNat

/-- Whether the gain schedule is enabled (R150). -/
def gainEnabled (cfg : ConfigRecord) : Bool := cfg.gainEnable == 1#8

/-- Whether the channel's role is DISPLACEMENT (R163, R195). -/
def roleIsDisplacement (cfg : ConfigRecord) : Bool := cfg.role == 1#8

end Sys2Proof.Machine
end

