-- ==== Sys2Proof/Machine/Flags.lean ====
section
/-! DEFINITION. The flags of the station: the groups of states, the hold reason set, the amplifier status conditions and
the Event Set with its ATTENTION output. -/

namespace Sys2Proof.Machine

/-! ### Groups of states (R63) -/

/-- The run group (R63). -/
def Mode.inRunGroup : Mode → Bool
  | .countdown | .rampIn | .playing | .rampOutMoving | .rampOutParked | .held | .ending | .complete => true
  | .unconfigured | .idle | .armed | .tripped => false

/-- The permit states: ARMED and the run group (R63); PERMIT is active exactly in these (R96). -/
def Mode.isPermit : Mode → Bool
  | .armed | .countdown | .rampIn | .playing | .rampOutMoving | .rampOutParked | .held | .ending | .complete => true
  | .unconfigured | .idle | .tripped => false

/-- The moving states (R63). -/
def Mode.isMoving : Mode → Bool
  | .rampIn | .playing | .rampOutMoving => true
  | .unconfigured | .idle | .armed | .countdown | .rampOutParked | .held | .ending | .complete | .tripped => false

/-- The computing states, in which samples are read (R16, R38). -/
def Mode.isComputing : Mode → Bool
  | .rampIn | .playing | .rampOutMoving | .rampOutParked | .ending => true
  | .unconfigured | .idle | .armed | .countdown | .held | .complete | .tripped => false

/-- The states in which g falls (R50). -/
def Mode.isFadingOut : Mode → Bool
  | .rampOutMoving | .rampOutParked | .ending => true
  | .unconfigured | .idle | .armed | .countdown | .rampIn | .playing | .held | .complete | .tripped => false

/-! ### The hold reason set (R64, R195) -/

/-- The set that holds one reason alone (R195). -/
def HoldReason.bit (r : HoldReason) : ReasonSet := 1#10 <<< r.code

/-- The set with a reason added; a reason already in the set is added again without effect (R65). -/
def addReasonBit (set : ReasonSet) (r : HoldReason) : ReasonSet := set ||| r.bit

/-- The latched kind: WINDOW, TRACK, AMP, SLIP, LOST, GROUP and LINK (R64). -/
def latchedKind : ReasonSet := 0b1111111000#10

/-- The latched set: the reasons of the latched kind in the set (R64). -/
def latchedSet (set : ReasonSet) : ReasonSet := set &&& latchedKind

/-- The resumable reasons leave the set: HOST, PEER and WAIT (R64, R86). -/
def withoutResumable (set : ReasonSet) : ReasonSet := set &&& latchedKind

/-- The hold flag: set while the set is not empty (R64). -/
def holdFlag (set : ReasonSet) : Bool := set != 0#10

/-! ### Amplifier status (R154) -/

/-- NOT-READY alone, the placeholder set at CONFIGURE (R154). -/
def notReadyAlone : AmpStatus := 0x80#8

/-- Whether a status has NOT-READY present (R72, R161). -/
def showsNotReady (status : AmpStatus) : Bool := status.getLsbD 7

/-- Whether at least one condition of a status is in a mask (R159, R160). -/
def inMask (status mask : AmpStatus) : Bool := status &&& mask != 0#8

/-! ### The Event Set (R181 to R184) -/

/-- The set that holds one event alone (R195). -/
def Event.bit (e : Event) : EventBits := 1#15 <<< e.code

/-- ATTENTION is active while at least one latched event is in the attention mask; the mask absent, it is inactive
(R184). -/
def attentionOf (latched : EventBits) (mask : Option EventBits) : Bool :=
  match mask with
  | none => false
  | some m => latched &&& m != 0#15

/-- The Event Set with another latched set; ATTENTION changes with it (R184). -/
def EventSet.withLatched (ev : EventSet) (latched : EventBits) : EventSet :=
  { ev with latched := latched, attention := attentionOf latched ev.mask }

/-- Raising an event latches it (R181). -/
def EventSet.raise (ev : EventSet) (e : Event) : EventSet := ev.withLatched (ev.latched ||| e.bit)

/-- Removing the named events (R183). -/
def EventSet.clear (ev : EventSet) (named : EventBits) : EventSet := ev.withLatched (ev.latched &&& ~~~named)

/-- A block raises an event (R181). -/
def Station.raise (st : Station) (e : Event) : Station := { st with events := st.events.raise e }

end Sys2Proof.Machine
end

