-- ==== Sys2Proof/Machine/Ops.lean ====
section
/-! DEFINITION. The shared operations of the station: changing the station state, placing control frames, taking a hold
reason, taking a trip cause, entering IDLE, the resets, and answering a request. Every command's meaning is built from
these. -/

namespace Sys2Proof.Machine

/-! ### When the station runs -/

/-- The station runs while its supply is on and its RESET line is inactive; otherwise it holds its reset values and
takes nothing (R193). -/
def Station.running (st : Station) : Bool := st.power && !st.resetLine

/-- An event of the running, configured station: in every other case the station takes nothing (R137, R166, R193). -/
def Station.whenConfigured (st : Station) (f : ConfigRecord → Station → Station) : Station :=
  match st.running, st.config with
  | true, some cfg => f cfg st
  | _, _ => st

/-- A meaning that acts on the station alone: it always completes, and leaves the queue as it is. -/
def State.act (s : State) (f : Station → Station) : Host.Outcome State Fault Refusal :=
  .next { s with station := f s.station }

/-! ### Changing the station state -/

/-- Writing the increment I (R41). -/
def Station.setIncrement (st : Station) (i : Nat) : Station :=
  { st with engine := { st.engine with regs := st.engine.regs.map fun r => { r with increment := i } } }

/-- The Station Controller enters a state: PERMIT follows it (R96), the countdown is 64 on entry to COUNTDOWN and absent
in every other state (R78), the increment becomes N when the state is not a moving one (R41, R63), a fade's end that was
reported for the state left is void, and STATE is raised (R62). -/
def Station.enterMode (st : Station) (cfg : ConfigRecord) (m : Mode) : Station :=
  let st1 := { st with
    ctl := { st.ctl with mode := m, permit := m.isPermit, countdown := if m = Mode.countdown then some 64 else none }
    engine := { st.engine with fadeEnd := none } }
  let st2 := if m.isMoving then st1 else st1.setIncrement (nominal cfg)
  st2.raise .state

/-! ### The transmit slots -/

/-- A frame is placed in the CONTROL slot, replacing a frame there that has not been sent (R127). -/
def Station.placeControl (st : Station) (body : FrameBody) : Station :=
  { st with link := { st.link with controlSlot := some { body := body, latched := false } } }

/-- A TRIP frame is placed in the TRIP slot, replacing one still there (R126). -/
def Station.placeTrip (st : Station) (cause : TripCause) : Station :=
  { st with link := { st.link with tripSlot := some { body := .trip (codeByte cause.code), latched := false } } }

/-- Whether a slot's frame is a GO (R77). -/
def isGo : Option SlotFrame → Bool
  | some { body := .go .., .. } => true
  | _ => false

/-- Whether a slot's frame is a RESUME (R74). -/
def isResume : Option SlotFrame → Bool
  | some { body := .resume .., .. } => true
  | _ => false

/-- The HOLD frame that carries a hold reason set (R66, R87, R195). -/
def holdBody (set : ReasonSet) : FrameBody := .hold (set.setWidth 16)

/-! ### Positions as records take them -/

/-- The position as a record takes it. Every permit state has a position (R37, R42); where a state that no run reaches
has none, the position of ARM stands for it (log entry 23). -/
def Station.positionNow (st : Station) : Position := st.engine.position.getD { pass := 1, whole := 0, fraction := 0, park := .none }

/-! ### Holds (R65, R66) -/

/-- A reason is added to the hold reason set (R65). -/
def Station.insertReason (st : Station) (r : HoldReason) : Station :=
  { st with ctl := { st.ctl with reasons := addReasonBit st.ctl.reasons r } }

/-- The start of a hold: HOLD is raised, the hold record is set, and unless the first reason is PEER or WAIT a HOLD frame
with the set as it stands is placed in the CONTROL slot (R66, R67). -/
def Station.startHold (st : Station) (r : HoldReason) (origin : StationNo) : Station :=
  let p := st.positionNow
  let record : HoldRecord := { first := r, origin := origin, pass := p.pass, whole := p.whole, fraction := p.fraction }
  let st1 := ({ st with ctl := { st.ctl with holdRecord := some record } } : Station).raise .hold
  if r = .peer ∨ r = .wait then st1 else st1.placeControl (holdBody st.ctl.reasons)

/-- The Station Controller takes a reported hold reason in the state it finds (R65, R66): in RAMP-IN and PLAYING it starts
a hold by a RAMP-OUT, parked for WAIT and moving for any other reason; in COUNTDOWN it starts a hold in HELD; in RAMP-OUT,
HELD, ENDING and COMPLETE the reason is added; in the other states it is not. -/
def Station.takeReason (st : Station) (cfg : ConfigRecord) (r : HoldReason) (origin : StationNo) : Station :=
  match st.ctl.mode with
  | .rampIn | .playing =>
    ((st.insertReason r).enterMode cfg (if r = .wait then .rampOutParked else .rampOutMoving)).startHold r origin
  | .countdown => ((st.insertReason r).enterMode cfg .held).startHold r origin
  | .rampOutMoving | .rampOutParked | .held | .ending | .complete => st.insertReason r
  | .unconfigured | .idle | .armed | .tripped => st

/-- A hold reason that the station finds itself has the own number as origin (R67). -/
def Station.reportReason (st : Station) (cfg : ConfigRecord) (r : HoldReason) : Station := st.takeReason cfg r (own cfg)

/-! ### Trips (R90, R91) -/

/-- c and c_prev become O and g becomes 0 at once, and O is offered in place of any earlier offer (R59, R91). -/
def Station.forceOffset (st : Station) (cfg : ConfigRecord) : Station :=
  { st with engine := { st.engine with
      regs := st.engine.regs.map fun r => { r with fade := 0, command := offset cfg, commandPrev := offset cfg }
      offered := some { command := offset cfg, previous := offset cfg } } }

/-- The CONTROL slot is emptied of any frame not yet sent (R91, R127). -/
def Station.emptyControl (st : Station) : Station := { st with link := { st.link with controlSlot := none } }

/-- The Station Controller takes a trip cause: in a permit state it takes the trip of R91; in every other state the cause
is not taken (R92). -/
def Station.takeTrip (st : Station) (cfg : ConfigRecord) (cause : TripCause) (origin : StationNo) : Station :=
  if st.ctl.mode.isPermit then
    let record : TripRecord := { cause := cause, origin := origin, state := st.ctl.mode, position := st.positionNow }
    let st1 : Station := { st with ctl := { st.ctl with tripRecord := some record } }
    let st2 := ((st1.forceOffset cfg).emptyControl).enterMode cfg .tripped
    let st3 := if cause = .peerTrip then st2 else st2.placeTrip cause
    st3.raise .trip
  else st

/-! ### Entering IDLE (R74) -/

/-- An own GO or RESUME still unsent is removed from the CONTROL slot; a HOLD stays (R74, R127). -/
def Station.dropGoAndResume (st : Station) : Station :=
  if isGo st.link.controlSlot || isResume st.link.controlSlot then st.emptyControl else st

/-- Entering IDLE by DISARM or CLEAR-TRIP: the hold reason set is emptied, the position and the frozen tables become
absent, an own GO or RESUME unsent is removed, PERMIT becomes inactive, the countdown absent, and STATE is raised; the
hold and trip records are kept (R74). -/
def Station.enterIdle (st : Station) (cfg : ConfigRecord) : Station :=
  let st1 := { st with
    ctl := { st.ctl with reasons := 0 }
    engine := { st.engine with position := none }
    schedule := { st.schedule with tables := none } }
  (st1.dropGoAndResume).enterMode cfg .idle

/-! ### The resets (R193, R194) -/

/-- Power-on and the RESET line: every block takes its reset values, the start kind HARD; the lines outside stand as they
are, and the store physically holds what it held (R2, R193; log entry 4). -/
def Station.hardReset (st : Station) : Station :=
  { Station.reset with power := st.power, resetLine := st.resetLine, estopLine := st.estopLine, store := st.store }

/-- A record across STATION-RESET: READY and BAD are kept, LOADING becomes EMPTY (R19). -/
def Segment.afterSoftReset : Segment → Segment
  | .empty => .empty
  | .loading .. => .empty
  | .ready b => .ready b
  | .bad b => .bad b

/-- STATION-RESET takes effect: power-on values, but for the READY and BAD segments, the store and the start kind SOFT
(R194). -/
def Station.softReset (st : Station) : Station :=
  { st.hardReset with segments := st.segments.map Segment.afterSoftReset, startKind := .soft }

/-! ### Answering on the host port (R176 to R178) -/

/-- A reply is placed. A transmitter that is IDLE takes it at once, and one that is SENDING leaves it in the reply place
(R178). -/
def HostPort.answer (port : HostPort) (r : HostReply) : HostPort :=
  match port.sending with
  | none => { port with sending := some r }
  | some _ => { port with reply := some r }

/-- The station answers a request: its kind, the result code and the fields after it (R177). -/
def Station.answer (st : Station) (kind : Byte) (code : ResultCode) (body : List Byte) : Station :=
  { st with port := st.port.answer { kind := kind, code := code, body := body } }

end Sys2Proof.Machine
end

