-- ==== Sys2Proof/Machine/SampleStore.lean ====
section
/-! DEFINITION. Chapter 1: the Sample Store, the Segment Table, and what the segment requests do once they are taken. -/

namespace Sys2Proof.Machine

/-! ### The Sample Store (R1, R2) -/

/-- Samples in a page (R1). -/
def pageSize : Nat := 8192

/-- Pages in the store (R1). -/
def pageTotal : Nat := 512

/-- Samples in the store: 512 pages of 8192 (R1). -/
def storeSize : Nat := 4194304

/-- What an index that nothing has written reads as: the spec leaves such contents unspecified and lets no read reach
them (R2). DESIGN CHOICE: sample 0 (log entry 4). -/
def unwritten : Sample := 0#16

/-- The sample at a linear index (R1, R16). -/
def Store.read (store : Store) (i : Nat) : Sample :=
  match store with
  | [] => unwritten
  | (j, x) :: rest => if j = i then x else Store.read rest i

/-- A list of cells with the cell of an index replaced or put in its place; the sample that an unlisted index reads as
takes its cell out, so that equal contents are equal lists. -/
def Store.put (store : Store) (i : Nat) (x : Sample) : Store :=
  match store with
  | [] => if x = unwritten then [] else [(i, x)]
  | (j, y) :: rest =>
    if j < i then (j, y) :: Store.put rest i x
    else if j = i then (if x = unwritten then rest else (i, x) :: rest)
    else if x = unwritten then (j, y) :: rest else (i, x) :: (j, y) :: rest

/-- Writing a sample at a linear index of the store; there is no position outside 0..4,194,303 (R1). -/
def Store.write (store : Store) (i : Nat) (x : Sample) : Store := if i < storeSize then Store.put store i x else store

/-- Cells whose indexes rise strictly from a bound on, lie in the store, and hold no unwritten sample. -/
def Store.wfFrom : Nat → Store → Bool
  | _, [] => true
  | low, (i, x) :: rest => decide (low ≤ i) && decide (i < storeSize) && decide (x ≠ unwritten) && Store.wfFrom (i + 1) rest

/-- The canonical form of the store. -/
def Store.wf (store : Store) : Bool := Store.wfFrom 0 store

/-! ### Segment records and pages (R3, R4) -/

/-- The fields that every record but an EMPTY one holds (R3). -/
def Segment.body? : Segment → Option SegmentBody
  | .empty => none
  | .loading b _ _ => some b
  | .ready b => some b
  | .bad b => some b

/-- Whether a record is EMPTY (R3). -/
def Segment.isEmpty : Segment → Bool
  | .empty => true
  | .loading .. | .ready _ | .bad _ => false

/-- Whether a record is LOADING (R3). -/
def Segment.isLoading : Segment → Bool
  | .loading .. => true
  | .empty | .ready _ | .bad _ => false

/-- Whether a record is READY (R3). -/
def Segment.isReady : Segment → Bool
  | .ready _ => true
  | .empty | .loading .. | .bad _ => false

/-- The record of a segment id 1..64 (1.2); an id with no record reads as EMPTY. -/
def Station.segment (st : Station) (id : Nat) : Segment :=
  if id = 0 then .empty else (st.segments[id - 1]?).getD .empty

/-- Whether a segment id lies in 1..64 (R6). -/
def isSegmentId (id : Nat) : Bool := decide (1 ≤ id ∧ id ≤ 64)

/-- The record of an id becomes another (1.2). -/
def Station.setSegment (st : Station) (id : Nat) (r : Segment) : Station :=
  if id = 0 then st else { st with segments := st.segments.setIfInBounds (id - 1) r }

/-- Whether the record last discarded under an id was LOADING (R13). -/
def Station.wasCut (st : Station) (id : Nat) : Bool := if id = 0 then false else (st.cutLoadings[id - 1]?).getD false

/-- A discard under an id ends its record, which was LOADING or was not (R13). -/
def Station.setCut (st : Station) (id : Nat) (cut : Bool) : Station :=
  if id = 0 then st else { st with cutLoadings := st.cutLoadings.setIfInBounds (id - 1) cut }

/-- Whether a record that is not EMPTY holds one of the pages first..first + count − 1 in its run (1.3). -/
def Segment.overlaps (seg : Segment) (first count : Nat) : Bool :=
  match seg.body? with
  | none => false
  | some b => decide (b.firstPage < first + count ∧ first < b.firstPage + b.pageCount)

/-- Whether the pages first..first + count − 1 all exist and are all free (R4). -/
def Station.runFree (st : Station) (first count : Nat) : Bool :=
  decide (first + count ≤ pageTotal) && st.segments.all fun seg => !seg.overlaps first count

/-- First fit: the lowest-numbered page that begins a free run of the given length (R4). -/
def Station.firstFit (st : Station) (count : Nat) : Option Nat := (List.range pageTotal).find? fun f => st.runFree f count

/-- The id of the segment that is LOADING, if one is (R6). -/
def Station.loadingId (st : Station) : Option Nat := ((List.range 64).map (· + 1)).find? fun id => (st.segment id).isLoading

/-- The length of a segment as its record holds it; 0 for an EMPTY one. -/
def Station.segmentLength (st : Station) (id : Nat) : Nat :=
  match (st.segment id).body? with
  | none => 0
  | some b => b.length

/-- The value the Replay Engine reads for a sample index of a segment (R1, R16). -/
def Station.sampleOf (st : Station) (id k : Nat) : Int :=
  match (st.segment id).body? with
  | none => 0
  | some b => (Store.read st.store (b.firstPage * pageSize + k)).toInt

/-- A segment is pinned while the playlist names it and the station is neither UNCONFIGURED nor IDLE (R15). -/
def Station.pinned (st : Station) (id : Nat) : Bool :=
  (st.schedule.playlist.any fun e => e.segment = id) && st.ctl.mode ≠ Mode.unconfigured && st.ctl.mode ≠ Mode.idle

/-! ### Loading (R6 to R11) -/

/-- The value written for a received sample: −32768 is written as −32767 (R9). -/
def storedSample (x : Sample) : Sample := if x = 0x8000#16 then 0x8001#16 else x

/-- The samples of a part written one after the other from a linear index on (R9). -/
def writeSamples (store : Store) (i : Nat) : List Sample → Store
  | [] => store
  | x :: rest => writeSamples (Store.write store i (storedSample x)) (i + 1) rest

/-- The running checksum advanced over samples as received (R9, R11). -/
def checksum (computed : BitVec 16) (samples : List Sample) : BitVec 16 := crc16 computed (samples.flatMap sampleBytes)

/-- SEGMENT-OPEN is taken: the checks of R6 in order, then R7. -/
def Station.takeSegmentOpen (st : Station) (kind : Byte) (id : BitVec 8) (length : BitVec 32) (expected : BitVec 16) : Station :=
  if st.ctl.mode = Mode.unconfigured then st.answer kind .badState []
  else if isSegmentId id.toNat = false then st.answer kind .noSegment []
  else if (st.segment id.toNat).isEmpty = false then st.answer kind .badState []
  else match st.loadingId with
    | some other => st.answer kind .busy [codeByte other]
    | none =>
      if length.toNat < 16 ∨ storeSize < length.toNat then st.answer kind .badArg []
      else
        let count := ceilDiv length.toNat pageSize
        match st.firstFit count with
        | none => st.answer kind .noSpace []
        | some f =>
          let body : SegmentBody :=
            { firstPage := f, pageCount := count, length := length.toNat, expected := expected, computed := crcInitHost }
          (st.setSegment id.toNat (.loading body 0 0)).answer kind .ok (leBytes 2 f ++ leBytes 2 count)

/-- A part whose index is not the one awaited is refused. R13 names one case: the loading before, of the same id, was ended by a
discard, the id has been opened again, and the part index is not 0; until the first part of the new loading is taken, that part
is refused BAD-STATE. Every other one is refused OUT-OF-ORDER with the index awaited, by check 4 of R8. DEDUCED: the rule that
names the case goes before the general one (log entry 29). -/
def Station.refusePart (st : Station) (kind : Byte) (id part next : Nat) : Station :=
  if st.wasCut id = true ∧ next = 0 ∧ part ≠ 0 then st.answer kind .badState []
  else st.answer kind .outOfOrder (leBytes 3 next)

/-- SEGMENT-DATA is taken: the checks of R8 in order, then R9 and, for the part that reaches the length, R10; a part of a
loading that a discard has ended is refused by R13 (log entry 29). -/
def Station.takeSegmentData (st : Station) (kind : Byte) (id : BitVec 8) (part : BitVec 32) (samples : List Sample) : Station :=
  if st.ctl.mode = Mode.unconfigured then st.answer kind .badState []
  else if isSegmentId id.toNat = false then st.answer kind .noSegment []
  else match st.segment id.toNat with
    | .loading b m next =>
      let n := samples.length
      if part.toNat ≠ next then st.refusePart kind id.toNat part.toNat next
      else if n < 1 ∨ 48 < n then st.answer kind .badArg []
      else if b.length < m + n then st.answer kind .badArg []
      else if m + n ≠ b.length ∧ n ≠ 48 then st.answer kind .badArg []
      else
        let b' := { b with computed := checksum b.computed samples }
        let st1 := { st with store := writeSamples st.store (b.firstPage * pageSize + m) samples }
        if m + n < b.length then
          (st1.setSegment id.toNat (.loading b' (m + n) (next + 1))).answer kind .ok [codeByte (Segment.loading b' 0 0).code]
        else if b'.computed = b'.expected then
          ((st1.setSegment id.toNat (.ready b')).raise .segmentReady).answer kind .ok [codeByte (Segment.ready b').code]
        else
          ((st1.setSegment id.toNat (.bad b')).raise .segmentBad).answer kind .ok [codeByte (Segment.bad b').code]
    | .empty | .ready _ | .bad _ => st.answer kind .badState []

/-- SEGMENT-DISCARD is taken: the rows of R12 in order; the table remembers whether it ended a loading (R12, R13). -/
def Station.takeSegmentDiscard (st : Station) (kind : Byte) (id : BitVec 8) : Station :=
  if st.ctl.mode = Mode.unconfigured then st.answer kind .badState []
  else if isSegmentId id.toNat = false then st.answer kind .noSegment []
  else if (st.segment id.toNat).isEmpty then st.answer kind .ok []
  else if st.pinned id.toNat then st.answer kind .locked []
  else ((st.setCut id.toNat (st.segment id.toNat).isLoading).setSegment id.toNat .empty).answer kind .ok []

/-- The fields of a record in the order of R3, each absent field marked absent, then the pinned indication (R14, R196). -/
def segmentInfoBody (id : Nat) (seg : Segment) (pinned : Bool) : List Byte :=
  let received : Option Nat := match seg with
    | .empty => none
    | .loading _ m _ => some m
    | .ready b => some b.length
    | .bad b => some b.length
  let next : Option Nat := match seg with
    | .loading _ _ k => some k
    | .empty | .ready _ | .bad _ => none
  [codeByte id, codeByte seg.code] ++ leOptional 2 (seg.body?.map (·.firstPage)) ++ leOptional 2 (seg.body?.map (·.pageCount)) ++
    leOptional 4 (seg.body?.map (·.length)) ++ leOptional 2 (seg.body?.map (·.expected.toNat)) ++
    leOptional 2 (seg.body?.map (·.computed.toNat)) ++ leOptional 4 received ++ leOptional 3 next ++ [boolByte pinned]

/-- SEGMENT-INFO is taken: answered in every state; it changes nothing (R14). -/
def Station.takeSegmentInfo (st : Station) (kind : Byte) (id : BitVec 8) : Station :=
  if isSegmentId id.toNat = false then st.answer kind .noSegment []
  else st.answer kind .ok (segmentInfoBody id.toNat (st.segment id.toNat) (st.pinned id.toNat))

end Sys2Proof.Machine
end

