-- ==== Sys2Proof/Machine/Scheduling.lean ====
section
/-! DEFINITION. Chapter 2: the playlist, the tables frozen at ARM, the mapping of positions, the single step, the next
sample and the resume position; and what the playlist requests do once they are taken. -/

namespace Sys2Proof.Machine

/-! ### Tables frozen at ARM (R25, R26) -/

/-- The samples an entry plays in one pass: its segment's length times its repeat count (R25). -/
def Station.span (st : Station) (e : Entry) : Nat := st.segmentLength e.segment * e.repeats

/-- The entry start table over entries of the given spans, from a start on (R25). -/
def startsFrom : Nat → List Nat → List Nat
  | _, [] => []
  | at0, span :: rest => at0 :: startsFrom (at0 + span) rest

/-- The entry start table (R25). -/
def Station.entryStarts (st : Station) : List Nat := startsFrom 0 (st.schedule.playlist.map st.span)

/-- The pass length L: the sum of length × repeats over the entries (R25). -/
def Station.passLength (st : Station) : Nat := (st.schedule.playlist.map st.span).sum

/-- The eight bytes of an entry under the fingerprint: id, length, repeats, WAIT flag (R26). -/
def Station.entryBytes (st : Station) (e : Entry) : List Byte :=
  leBytes 1 e.segment ++ leBytes 4 (st.segmentLength e.segment) ++ leBytes 2 e.repeats ++ [boolByte e.wait]

/-- The fingerprint: the CRC-16 over the entries in order and P (R26). -/
def Station.fingerprintNow (st : Station) : BitVec 16 :=
  crc16 crcInitHost (st.schedule.playlist.flatMap st.entryBytes ++ leBytes 2 st.schedule.passes)

/-- The tables that an accepted ARM computes (R25, R26). -/
def Station.computeTables (st : Station) : Tables :=
  { starts := st.entryStarts, passLength := st.passLength, fingerprint := st.fingerprintNow }

/-- The frozen fingerprint, absent while no tables exist (R25). -/
def Station.fingerprint? (st : Station) : Option (BitVec 16) := st.schedule.tables.map (·.fingerprint)

/-! ### Positions (R27, R28) -/

/-- Whether a pass and a whole position are legal: whole below L and, when P ≠ 0, pass in 1..P; no position is legal
while no tables exist (R27). -/
def Station.legal (st : Station) (pass whole : Nat) : Bool :=
  match st.schedule.tables with
  | none => false
  | some t => decide (whole < t.passLength) && (st.schedule.passes == 0 || decide (1 ≤ pass ∧ pass ≤ st.schedule.passes))

/-- What a whole position maps to: the entry, the repetition, the sample index, and the entry's start (R28). -/
structure Mapped where
  index      : Nat
  entry      : Entry
  start      : Nat
  repetition : Nat
  sample     : Nat
  deriving DecidableEq, Repr

/-- The index of the last entry whose start is not greater than a whole position; the starts rise strictly, so it is one
less than the number of such starts (R25, R28). -/
def entryIndex (starts : List Nat) (whole : Nat) : Nat := (starts.filter (· ≤ whole)).length - 1

/-- The mapping of a whole position (R28). -/
def Station.mapWhole (st : Station) (whole : Nat) : Option Mapped :=
  match st.schedule.tables with
  | none => none
  | some t =>
    let i := entryIndex t.starts whole
    match st.schedule.playlist[i]?, t.starts[i]? with
    | some e, some b =>
      let len := st.segmentLength e.segment
      some { index := i, entry := e, start := b, repetition := (whole - b) / len, sample := (whole - b) % len }
    | _, _ => none

/-- The sample at a whole position, read by segment id and sample index (R16, R28). -/
def Station.sampleAt (st : Station) (whole : Nat) : Int :=
  match st.mapWhole whole with
  | none => 0
  | some m => st.sampleOf m.entry.segment m.sample

/-! ### The single step (R29 to R33) -/

/-- Whether a pass is the final pass: P ≠ 0 and p = P (R29). -/
def Station.finalPass (st : Station) (pass : Nat) : Bool := st.schedule.passes != 0 && st.schedule.passes == pass

/-- Whether a whole position is L − 1 (R29). -/
def Station.lastWhole (st : Station) (whole : Nat) : Bool :=
  match st.schedule.tables with
  | none => false
  | some t => whole + 1 == t.passLength

/-- Whether a whole position is a WAIT end: the end of an entry whose WAIT flag is set (R29). -/
def Station.waitEnd (st : Station) (whole : Nat) : Bool :=
  match st.mapWhole whole with
  | none => false
  | some m => m.entry.wait && whole + 1 == m.start + st.span m.entry

/-- The pass number after a pass end; the pass counter is 32 bits wide (R27, R30). -/
def nextPass (pass : Nat) : Nat := (pass + 1) % 4294967296

/-- What a step reports or raises: nothing, the event PASS, a WAIT park or the schedule end (R30 to R32). -/
inductive StepReport where
  | nothing | passEnd | waitPark | endPark
  deriving DecidableEq, Repr

/-- A single step from a position, the first case of R29 that applies. -/
def Station.singleStep (st : Station) (p : Position) : Position × StepReport :=
  if p.park ≠ Park.none then (p, .nothing)
  else if st.lastWhole p.whole && st.finalPass p.pass then ({ p with fraction := 0, park := .finish }, .endPark)
  else if st.waitEnd p.whole then ({ p with fraction := 0, park := .wait }, .waitPark)
  else if st.lastWhole p.whole then ({ p with pass := nextPass p.pass, whole := 0 }, .passEnd)
  else ({ p with whole := p.whole + 1 }, .nothing)

/-! ### The next sample (R34) -/

/-- The whole position whose sample is the next sample of a position (R34): the position itself when it is parked, at L − 1
of the final pass or on a WAIT end; the first of the pass from L − 1; otherwise the following one, which the mapping of
R28 places in the same repetition, the next repetition or the next entry. -/
def Station.nextWhole (st : Station) (p : Position) : Nat :=
  if p.park ≠ Park.none then p.whole
  else if st.lastWhole p.whole && st.finalPass p.pass then p.whole
  else if st.waitEnd p.whole then p.whole
  else if st.lastWhole p.whole then 0
  else p.whole + 1

/-! ### Where a resume starts (R35) -/

/-- The pass and whole position that a RESUME frame carries: after a WAIT park the position that follows the parked
sample in schedule order, and otherwise the current one (R35). -/
def Station.resumePosition (st : Station) (p : Position) : Nat × Nat :=
  if p.park = .wait then
    if st.lastWhole p.whole then (nextPass p.pass, 0) else (p.pass, p.whole + 1)
  else (p.pass, p.whole)

/-! ### The playlist requests (R21 to R24) -/

/-- The most entries a playlist holds (R20). -/
def playlistCapacity : Nat := 96

/-- PLAYLIST-APPEND is taken: the checks of R21 in order; the entry joins the end of the playlist. -/
def Station.takePlaylistAppend (st : Station) (kind : Byte) (id : BitVec 8) (repeats : BitVec 16) (wait : BitVec 8) : Station :=
  let n := st.schedule.playlist.length
  if st.ctl.mode ≠ Mode.idle then st.answer kind .badState []
  else if isSegmentId id.toNat = false then st.answer kind .noSegment []
  else if repeats.toNat < 1 then st.answer kind .badArg []
  else if 1 < wait.toNat then st.answer kind .badArg []
  else if playlistCapacity ≤ n then st.answer kind .full []
  else
    let e : Entry := { segment := id.toNat, repeats := repeats.toNat, wait := wait == 1#8 }
    ({ st with schedule := { st.schedule with playlist := st.schedule.playlist ++ [e] } } : Station).answer kind .ok
      [codeByte n, codeByte (n + 1)]

/-- PLAYLIST-CLEAR is taken: in IDLE the playlist becomes empty, and P keeps its value (R22). -/
def Station.takePlaylistClear (st : Station) (kind : Byte) : Station :=
  if st.ctl.mode ≠ Mode.idle then st.answer kind .badState []
  else ({ st with schedule := { st.schedule with playlist := [] } } : Station).answer kind .ok []

/-- PLAYLIST-READ is taken: answered in every state; it changes nothing (R23). -/
def Station.takePlaylistRead (st : Station) (kind : Byte) (index : BitVec 8) : Station :=
  let n := st.schedule.playlist.length
  match st.schedule.playlist[index.toNat]? with
  | none => st.answer kind .badArg ([codeByte n] ++ leBytes 2 st.schedule.passes)
  | some e =>
    let start := st.schedule.tables.bind fun t => t.starts[index.toNat]?
    st.answer kind .ok
      ([codeByte e.segment] ++ leBytes 2 e.repeats ++ [boolByte e.wait, codeByte n] ++ leBytes 2 st.schedule.passes ++
        leOptional 6 start ++ leOptional 6 (st.schedule.tables.map (·.passLength)) ++
        leOptional 2 (st.fingerprint?.map (·.toNat)))

/-- SCHEDULE-PASSES is taken: in IDLE P takes the value (R24). -/
def Station.takeSchedulePasses (st : Station) (kind : Byte) (passes : BitVec 16) : Station :=
  if st.ctl.mode ≠ Mode.idle then st.answer kind .badState []
  else ({ st with schedule := { st.schedule with passes := passes.toNat } } : Station).answer kind .ok []

end Sys2Proof.Machine
end

