-- ==== Sys2Proof/Machine/Replay.lean ====
section
/-! DEFINITION. Chapter 3: the Replay Engine's seven steps, the taking of the changes of state that an update reports,
and SET-LEVEL. -/

namespace Sys2Proof.Machine

/-! ### Changes of state an update has reported (R39, R49, R50, R78) -/

/-- The countdown's expiry is taken: a COUNTDOWN whose countdown stands at 0 enters RAMP-IN (R78). -/
def Station.expireCountdown (st : Station) (cfg : ConfigRecord) : Station :=
  if st.ctl.mode = Mode.countdown ∧ st.ctl.countdown = some 0 then st.enterMode cfg .rampIn else st

/-- The reported end of a ramp-in is taken: RAMP-IN enters PLAYING (R49). -/
def Station.endRampIn (st : Station) (cfg : ConfigRecord) : Station :=
  if st.engine.fadeEnd = some .rampIn ∧ st.ctl.mode = Mode.rampIn then st.enterMode cfg .playing else st

/-- The reported end of a ramp-out is taken: RAMP-OUT enters HELD and ENDING enters COMPLETE (R50). -/
def Station.endRampOut (st : Station) (cfg : ConfigRecord) : Station :=
  if st.engine.fadeEnd = some .rampOut then
    match st.ctl.mode with
    | .rampOutMoving | .rampOutParked => st.enterMode cfg .held
    | .ending => st.enterMode cfg .complete
    | .unconfigured | .idle | .armed | .countdown | .rampIn | .playing | .held | .complete | .tripped => st
  else st

/-- The changes of state that the update before reported are in force when an update begins (R39, R78). -/
def Station.takeReported (st : Station) (cfg : ConfigRecord) : Station :=
  ((st.expireCountdown cfg).endRampIn cfg).endRampOut cfg

/-! ### Step 1: the advance (R40) -/

/-- The position with a new value (R42). -/
def Station.setPosition (st : Station) (p : Position) : Station := { st with engine := { st.engine with position := some p } }

/-- A WAIT park reported by the Schedule is taken: in RAMP-IN and PLAYING the reason WAIT starts a parked RAMP-OUT; a
moving RAMP-OUT becomes a parked one and WAIT is added (R31, R63, R65). -/
def Station.takeWaitPark (st : Station) (cfg : ConfigRecord) : Station :=
  match st.ctl.mode with
  | .rampOutMoving => (st.insertReason .wait).enterMode cfg .rampOutParked
  | .unconfigured | .idle | .armed | .countdown | .rampIn | .playing | .rampOutParked | .held | .ending | .complete | .tripped =>
    st.reportReason cfg .wait

/-- The schedule end reported by the Schedule is taken: RAMP-IN, PLAYING and a moving RAMP-OUT enter ENDING (R32, R88). -/
def Station.takeEndPark (st : Station) (cfg : ConfigRecord) : Station :=
  if st.ctl.mode.isMoving then st.enterMode cfg .ending else st

/-- What a step of the Schedule reports is raised or taken (R30 to R32). -/
def Station.takeStepReport (st : Station) (cfg : ConfigRecord) : StepReport → Station
  | .nothing => st
  | .passEnd => st.raise .pass
  | .waitPark => st.takeWaitPark cfg
  | .endPark => st.takeEndPark cfg

/-- A carry handed to the Schedule as that many single steps in turn; a step that parks ends the advance, since every
step after it leaves the position as it is (2.5, R29). -/
def Station.advanceBy (st : Station) (cfg : ConfigRecord) (p : Position) : Nat → Station
  | 0 => st.setPosition p
  | n + 1 =>
    let (p', report) := st.singleStep p
    ((st.setPosition p').takeStepReport cfg report).advanceBy cfg p' n

/-- Step 1: I is added to the fraction, and the carry goes to the Schedule (R40). -/
def Station.advance (st : Station) (cfg : ConfigRecord) : Station :=
  match st.engine.position, st.engine.regs with
  | some p, some r =>
    let sum := p.fraction + r.increment
    if p.park = .none then st.advanceBy cfg { p with fraction := sum % 65536 } (sum / 65536) else st
  | _, _ => st

/-! ### Steps 2 to 6 (R43 to R56) -/

/-- Step 2: v = s0 + floor((s1 − s0) × F ÷ 65536) (R43). -/
def interpolate (s0 s1 : Int) (fraction : Nat) : Int := s0 + (s1 - s0) * fraction / 65536

/-- The interpolated value at a position (R34, R43). -/
def Station.interpolated (st : Station) : Int :=
  match st.engine.position with
  | none => 0
  | some p => interpolate (st.sampleAt p.whole) (st.sampleAt (st.nextWhole p)) p.fraction

/-- G moves toward the target by the level step, and takes the target when it is no further than that (R45). -/
def moveLevel (level target step : Nat) : Nat :=
  if level ≤ target then (if target - level ≤ step then target else level + step)
  else if level - target ≤ step then target else level - step

/-- Step 3: p1 = round(v × G ÷ 16384) (R47). -/
def scaleLevel (v : Int) (level : Nat) : Int := roundDiv (v * level) 16384

/-- Step 4: g rises by Δ in RAMP-IN, falls by Δ in RAMP-OUT and ENDING, and stands otherwise (R49 to R51). -/
def moveFade (m : Mode) (fade step : Nat) : Nat :=
  if m = .rampIn then min 32768 (fade + step) else if m.isFadingOut then fade - step else fade

/-- Step 4: p2 = round(p1 × g ÷ 32768) (R52). -/
def scaleFade (p1 : Int) (fade : Nat) : Int := roundDiv (p1 * fade) 32768

/-- A count of 32 bits that saturates (R54). -/
def countUp (n : Nat) : Nat := min 4294967295 (n + 1)

/-- Step 6: c1 approached from c_prev by no more than Rmax (R55). -/
def limitRate (c1 previous rmax : Int) : Int :=
  if rmax < c1 - previous then previous + rmax else if c1 - previous < -rmax then previous - rmax else c1

/-- Step 5's outcome: a clamped update raises CLAMP and counts (R53, R54). -/
def Station.noteClamp (st : Station) (clamped : Bool) : Station :=
  if clamped then
    ({ st with engine := { st.engine with clampCount := countUp st.engine.clampCount } } : Station).raise .clamp
  else st

/-- Step 6's outcome: a rate-limited update raises RATE and counts (R54, R55). -/
def Station.noteRate (st : Station) (limited : Bool) : Station :=
  if limited then
    ({ st with engine := { st.engine with rateCount := countUp st.engine.rateCount } } : Station).raise .rate
  else st

/-- The end of a fade that an update reports (R49, R50): of a ramp-in when g has reached 32768 and the update did not
park the position; of a ramp-out when g has reached 0. -/
def fadeReport (began now : Mode) (fade : Nat) : Option FadeEnd :=
  if began = .rampIn then (if fade = 32768 ∧ now = .rampIn then some .rampIn else none)
  else if began.isFadingOut then (if fade = 0 then some .rampOut else none)
  else none

/-- The registers of the engine with new values, and the offer of step 7 (R57). -/
def Station.setEngine (st : Station) (r : EngineRegs) (offer : Offer) : Station :=
  { st with engine := { st.engine with regs := some r, offered := some offer } }

/-- Steps 2 to 7 of an update that began in state m, over the registers r (R38, R39). In TRIPPED c = c_prev = O and nothing
is limited or counted (R59); outside the computing states c1 = O (R58). -/
def Station.computeCommand (st : Station) (cfg : ConfigRecord) (m : Mode) (r : EngineRegs) : Station :=
  let level := moveLevel r.level r.target cfg.levelStep.toNat
  if m = .tripped then
    st.setEngine { r with level := level, command := offset cfg, commandPrev := offset cfg }
      { command := offset cfg, previous := offset cfg }
  else
    let fade := moveFade m r.fade (fadeStep cfg)
    let wanted := if m.isComputing then offset cfg + scaleFade (scaleLevel st.interpolated level) fade else offset cfg
    let c1 := if m.isComputing then clampInt (cMin cfg) (cMax cfg) wanted else wanted
    let c := limitRate c1 r.commandPrev cfg.rateLimit.toNat
    let st1 := (st.noteClamp (c1 != wanted)).noteRate (c != c1)
    let st2 := st1.setEngine { r with fade := fade, level := level, command := c, commandPrev := c }
      { command := c, previous := r.commandPrev }
    match fadeReport m st.ctl.mode fade with
    | none => st2
    | some f => { st2 with engine := { st2.engine with fadeEnd := some f } }

/-- The Replay Engine's work at one update in a configured state: the steps that R38 calls for in the state the station
had when the update began (R39). -/
def Station.replayUpdate (st : Station) (cfg : ConfigRecord) : Station :=
  let m := st.ctl.mode
  let st1 := if m.isMoving then st.advance cfg else st
  match st1.engine.regs with
  | none => st1
  | some r => st1.computeCommand cfg m r

/-- The countdown decreases by 1 at each update in COUNTDOWN (R78). -/
def Station.countDown (st : Station) : Station :=
  if st.ctl.mode = .countdown then { st with ctl := { st.ctl with countdown := st.ctl.countdown.map (· - 1) } } else st

/-! ### SET-LEVEL (R46) -/

/-- SET-LEVEL is taken: the target takes the value; G follows from the next update (R46). -/
def Station.takeSetLevel (st : Station) (kind : Byte) (target : BitVec 16) : Station :=
  match st.engine.regs with
  | none => st.answer kind .badState []
  | some r =>
    if st.ctl.mode = Mode.unconfigured then st.answer kind .badState []
    else
      ({ st with engine := { st.engine with regs := some { r with target := target.toNat } } } : Station).answer kind .ok
        (leBytes 2 target.toNat ++ leBytes 2 r.level)

end Sys2Proof.Machine
end

