-- ==== Sys2Proof/Machine/Peers.lean ====
section
/-! DEFINITION. Chapter 5: the Peer Table, the tick that ages its entries and counts to the beat instant, the work of a
beat instant, the entry of a received BEAT, and the clash. -/

namespace Sys2Proof.Machine

/-! ### Entries (R98 to R101) -/

/-- The entry of a station number, if one exists (R98). -/
def Station.peer (st : Station) (k : StationNo) : Option PeerEntry := st.peers.entries[k]

/-- The entry of a station number becomes another (R98). -/
def Station.setPeer (st : Station) (k : StationNo) (e : PeerEntry) : Station :=
  { st with peers := { st.peers with entries := st.peers.entries.set k (some e) } }

/-- A count of updates that saturates at 65535 (R98, R100). -/
def ageUp (n : Nat) : Nat := min 65535 (n + 1)

/-- An entry at one update: both ages rise, and a FRESH entry whose BEAT age is raised past the silence limit becomes
STALE (R100). -/
def PeerEntry.aged (e : PeerEntry) (limit : Nat) : PeerEntry :=
  { e with
    age := ageUp e.age
    fresh := e.fresh && decide (ageUp e.age ≤ limit)
    lastControl := e.lastControl.map fun l => { l with age := ageUp l.age } }

/-- Whether an entry turns STALE at an update (R100). -/
def PeerEntry.turnsStale (e : PeerEntry) (limit : Nat) : Bool := e.fresh && !(e.aged limit).fresh

/-- The beat counter's next value, and whether it returns to 0, which makes the update a beat instant (R103). -/
def nextBeat (counter interval : Nat) : Nat := if counter + 1 ≥ interval then 0 else counter + 1

/-- The Peer Table's tick at one update: entries age, PEER-LOST is raised if one turns STALE, and the beat counter counts;
where it returns to 0 a beat instant has fallen (R100, R103). -/
def Station.peerTick (st : Station) (cfg : ConfigRecord) : Station :=
  let limit := silenceLimit cfg
  let lost := st.peers.entries.any fun e => (e.map fun x => x.turnsStale limit).getD false
  let counter := st.peers.beatCounter.map fun n => nextBeat n cfg.beatInterval.toNat
  let st1 := { st with peers := { st.peers with
    entries := st.peers.entries.map fun e => e.map fun x => x.aged limit
    beatCounter := counter
    beatDue := st.peers.beatDue || counter == some 0 } }
  if lost then st1.raise .peerLost else st1

/-! ### The BEAT (R104, R198, R199) -/

/-- The fields of the BEAT as the station's values stand (R104, R198). DESIGN CHOICE: bits 2 to 7 of the flags byte, which R198
does not name, are sent as 0 (log entry 37). -/
def Station.beatNow (st : Station) (cfg : ConfigRecord) : BeatFields :=
  let held := holdFlag st.ctl.reasons
  let base : BeatFields :=
    { state := codeByte st.ctl.mode.code, group := cfg.group, flags := if held then 1#8 else 0#8, fingerprint := 0, pass := 0,
      whole := 0, fraction := 0, reasons := st.ctl.reasons.setWidth 16, share := BitVec.ofInt 24 st.peers.ownShare }
  match st.schedule.tables, st.engine.position with
  | some t, some p =>
    { base with
      flags := if held then 3#8 else 2#8
      fingerprint := t.fingerprint
      pass := BitVec.ofNat 16 p.pass
      whole := BitVec.ofNat 32 p.whole
      fraction := BitVec.ofNat 16 p.fraction }
  | _, _ => base

/-- The schedule fields of a received BEAT: absent when its schedule mark is clear or its state code is 0 or above 11
(R199). -/
def beatSchedule (f : BeatFields) : Option PeerSchedule :=
  if f.flags.getLsbD 1 = false ∨ f.state.toNat = 0 ∨ 11 < f.state.toNat then none
  else some { fingerprint := f.fingerprint, pass := f.pass.toNat, whole := f.whole.toNat, fraction := f.fraction.toNat }

/-- The entry that a received BEAT makes (R98, R99, R199): its nine fields copied, age 0, FRESH, the run mark set when the
station is in the run group; the last control fields are those the table kept. DESIGN CHOICE: a group above 7 and a share
outside its range are entered as sent (log entry 32), and bits 2 to 7 of the flags byte are passed over (log entry 37). -/
def entryOfBeat (f : BeatFields) (runGroup : Bool) (kept : Option LastControl) : PeerEntry :=
  { state := Mode.ofBeatCode f.state, group := f.group.toNat, schedule := beatSchedule f, holdFlag := f.flags.getLsbD 0,
    reasons := f.reasons.setWidth 10, share := f.share.toInt, age := 0, fresh := true, runMark := runGroup, lastControl := kept }

/-- Whether a BEAT from a station joins: it has no entry, or a STALE one (R99). -/
def Station.joins (st : Station) (k : StationNo) : Bool :=
  match st.peer k with
  | none => true
  | some e => !e.fresh

/-- A BEAT of another station is entered, PEER-JOINED raised if it joins (R99). -/
def Station.enterBeat (st : Station) (k : StationNo) (f : BeatFields) : Station :=
  let kept := (st.peer k).bind (·.lastControl)
  let st1 := st.setPeer k (entryOfBeat f st.ctl.mode.inRunGroup kept)
  if st.joins k then st1.raise .peerJoined else st1

/-- The hold flag test: a set hold flag of an expected peer reports PEER in COUNTDOWN, RAMP-IN and PLAYING (R110). -/
def Station.testHoldFlag (st : Station) (cfg : ConfigRecord) (k : StationNo) (f : BeatFields) : Station :=
  if expects cfg k ∧ f.flags.getLsbD 0 ∧ (st.ctl.mode = .countdown ∨ st.ctl.mode = .rampIn ∨ st.ctl.mode = .playing) then
    st.takeReason cfg .peer k
  else st

/-- The tripped-peer test: an expected peer's BEAT showing TRIPPED reports PEER-TRIP in the run group (R109). -/
def Station.testTripped (st : Station) (cfg : ConfigRecord) (k : StationNo) (f : BeatFields) : Station :=
  if expects cfg k ∧ Mode.ofBeatCode f.state = .tripped ∧ st.ctl.mode.inRunGroup then st.takeTrip cfg .peerTrip k else st

/-- A received control frame is recorded in the sender's entry, if it has one and is not the station itself (R101). -/
def Station.recordControl (st : Station) (cfg : ConfigRecord) (k : StationNo) (seen : ControlSeen) : Station :=
  if k = own cfg then st
  else match st.peer k with
    | none => st
    | some e => st.setPeer k { e with lastControl := some { seen := seen, age := 0 } }

/-- The run mark of every entry is cleared when the station takes a GO (R107). -/
def Station.clearRunMarks (st : Station) : Station :=
  { st with peers := { st.peers with entries := st.peers.entries.map fun e => e.map fun x => { x with runMark := false } } }

/-- A clash is reported: CLASH is raised, the clash is recorded, and in the run group LINK is reported (R120). -/
def Station.reportClash (st : Station) (cfg : ConfigRecord) : Station :=
  let st1 := ({ st with ctl := { st.ctl with clash := true } } : Station).raise .clash
  if st1.ctl.mode.inRunGroup then st1.reportReason cfg .link else st1

/-! ### Readiness of the peers (R106) -/

/-- Whether an entry shows the station's own frozen fingerprint; an absent one equals nothing (R106). -/
def Station.agrees (st : Station) (e : PeerEntry) : Bool :=
  match e.schedule, st.fingerprint? with
  | some s, some fp => s.fingerprint == fp
  | _, _ => false

/-- Whether a peer is ready: FRESH, in the state the request calls for, with the own fingerprint (R106). -/
def Station.peerReady (st : Station) (state : Mode) (k : StationNo) : Bool :=
  match st.peer k with
  | none => false
  | some e => e.fresh && e.state == state && st.agrees e

/-- The lowest expected station number that is not ready, if one is not (R106). -/
def Station.firstUnready (st : Station) (cfg : ConfigRecord) (state : Mode) : Option StationNo :=
  (expectedPeers cfg).find? fun k => !st.peerReady state k

/-! ### The consistency check (R107 to R109) -/

/-- Whether an expected peer fails the check: no entry, a STALE one whatever it shows (R108), or, unless it shows TRIPPED,
another fingerprint, or IDLE or ARMED with its run mark set (R107; log entry 15). -/
def Station.failsCheck (st : Station) (k : StationNo) : Bool :=
  match st.peer k with
  | none => true
  | some e =>
    if e.fresh = false then true
    else if e.state = .tripped then false
    else !st.agrees e || (e.runMark && (e.state == .idle || e.state == .armed))

/-- Whether an expected peer's entry is FRESH, has its run mark set and shows TRIPPED (R109). -/
def Station.showsTripped (st : Station) (k : StationNo) : Bool :=
  match st.peer k with
  | none => false
  | some e => e.fresh && e.runMark && e.state == .tripped

/-- The consistency check, in the run group: a tripped expected peer reports PEER-TRIP, the lowest number first, and the
reason LOST is reported once if a peer fails (R105, R107, R109; log entry 14). -/
def Station.consistencyCheck (st : Station) (cfg : ConfigRecord) : Station :=
  if st.ctl.mode.inRunGroup then
    let lost := (expectedPeers cfg).any st.failsCheck
    let st1 := match (expectedPeers cfg).find? st.showsTripped with
      | none => st
      | some k => st.takeTrip cfg .peerTrip k
    if lost then st1.reportReason cfg .lost else st1
  else st

/-! ### The trim (R111 to R117) -/

/-- Whether an expected peer is in the sync set: FRESH and in a moving state (R111). -/
def Station.inSync (st : Station) (k : StationNo) : Option PeerEntry :=
  match st.peer k with
  | none => none
  | some e => if e.fresh && e.state.isMoving then some e else none

/-- The pass difference d, from the low 16 bits of both passes, as a signed value (R113). -/
def passDifference (peerPass ownPass : Nat) : Int := Int.bmod ((peerPass : Int) - (ownPass : Int)) 65536

/-- The timeline error of a peer: D × 65536 + fraction + age × N − own fraction, D formed modulo 2^32 as a signed value
(R112, R113). -/
def timelineError (s : PeerSchedule) (age n passLength : Nat) (p : Position) : Int :=
  let d := passDifference s.pass p.pass
  let whole := Int.bmod ((s.whole : Int) + d * passLength - p.whole) 4294967296
  whole * 65536 + ((s.fraction + age * n : Nat) : Int) - p.fraction

/-- The peers of the sync set, split: the timeline errors of those kept, and whether one was left out because its pass
differs by more than 1 (R113). A moving peer whose position is absent gives no error (log entry 23). -/
def Station.syncErrors (st : Station) (cfg : ConfigRecord) (p : Position) (passLength : Nat) : List Int × Bool :=
  let peers := (expectedPeers cfg).filterMap st.inSync
  let seen := peers.filterMap fun e => e.schedule.map fun s => (s, e.age)
  let near := seen.filter fun x => (passDifference x.1.pass p.pass).natAbs ≤ 1
  (near.map fun x => timelineError x.1 x.2 (nominal cfg) passLength p, near.length != seen.length)

/-- The median: the element at index floor((k − 1) ÷ 2) of the errors sorted in ascending order (R114). -/
def medianOf (errors : List Int) : Int := (errors.insertionSort (· ≤ ·)).getD ((errors.length - 1) / 2) 0

/-- The trim: m ÷ 32 truncated toward zero, clamped to ±N/64 (R115). -/
def trimOf (m : Int) (n : Nat) : Int := clampInt (-(n / 64 : Nat)) (n / 64 : Nat) (Int.tdiv m 32)

/-- The trim of a station in a moving state: I = N + t is written, the own record keeps k, m and t, and SLIP is reported
when a peer was left out or the median passes the slip limit (R111 to R117). DEDUCED: the k kept is the number of elements
that R114 sorts, without the peers left out (log entry 30). -/
def Station.makeTrim (st : Station) (cfg : ConfigRecord) (p : Position) (passLength : Nat) : Station :=
  let (peerErrors, leftOut) := st.syncErrors cfg p passLength
  let errors := 0 :: peerErrors
  let m := medianOf errors
  let t := trimOf m (nominal cfg)
  let st1 : Station := { st with peers := { st.peers with lastTrim := some { size := errors.length, median := m, trim := t } } }
  let st2 := st1.setIncrement ((nominal cfg : Int) + t).toNat
  if leftOut ∨ cfg.slipLimit.toNat * 65536 < m.natAbs then st2.reportReason cfg .slip else st2

/-- The trim part of a beat instant: the trim in a moving state, and the write of I = N in any other (R105, R117). -/
def Station.trimPart (st : Station) (cfg : ConfigRecord) : Station :=
  if st.ctl.mode.isMoving then
    match st.engine.position, st.schedule.tables with
    | some p, some t => st.makeTrim cfg p t.passLength
    | _, _ => st
  else st.setIncrement (nominal cfg)

/-! ### The group load (R118, R119) -/

/-- The load share: round(w × F ÷ 16384) (R118). -/
def loadShare (cfg : ConfigRecord) (force : Int) : Int := roundDiv (cfg.weight.toInt * force) 16384

/-- The own load share is computed again at each valid feedback (R118). -/
def Station.recomputeShare (st : Station) (cfg : ConfigRecord) (force : Int) : Station :=
  { st with peers := { st.peers with ownShare := loadShare cfg force } }

/-- The share an entry adds to the group sum: FRESH, of the own group, in a state of the run group (R119). -/
def groupShare (cfg : ConfigRecord) (e : Option PeerEntry) : Int :=
  match e with
  | none => 0
  | some x => if x.fresh && x.group == cfg.group.toNat && x.state.inRunGroup then x.share else 0

/-- The group sum (R119). -/
def Station.groupTotal (st : Station) (cfg : ConfigRecord) : Int :=
  st.peers.ownShare + (st.peers.entries.toList.map (groupShare cfg)).sum

/-- The group load check, in the run group: the sum is kept, and GROUP is reported when its magnitude exceeds a limit that
is not 0 (R119). -/
def Station.groupCheck (st : Station) (cfg : ConfigRecord) : Station :=
  if st.ctl.mode.inRunGroup then
    let total := st.groupTotal cfg
    let st1 : Station := { st with peers := { st.peers with groupSum := some total } }
    if cfg.groupLimit.toNat ≠ 0 ∧ cfg.groupLimit.toNat < total.natAbs then st1.reportReason cfg .group else st1
  else st

/-! ### The beat instant (R105) -/

/-- The BEAT slot is filled, replacing a BEAT not yet sent (R104, R128). -/
def Station.refillBeat (st : Station) : Station := { st with link := { st.link with beatSlot := true } }

/-- The work of a beat instant, each part judged on the state as it stands when it is made (R105). -/
def Station.beatWork (st : Station) (cfg : ConfigRecord) : Station :=
  let st1 : Station := { st with peers := { st.peers with beatDue := false } }
  (((st1.consistencyCheck cfg).trimPart cfg).groupCheck cfg).refillBeat

/-- A beat instant that has fallen and whose work is not yet taken is taken (R103). -/
def Station.takeDueBeat (st : Station) (cfg : ConfigRecord) : Station := if st.peers.beatDue then st.beatWork cfg else st

/-- The Peer Table's tick of an UPDATE, unless it was taken ahead of it (R41; log entry 7). -/
def Station.tickPeers (st : Station) (cfg : ConfigRecord) : Station :=
  if st.peers.tickTaken then { st with peers := { st.peers with tickTaken := false } } else st.peerTick cfg

/-- The Peer Table's tick taken ahead of its UPDATE (R41; log entry 7). -/
def Station.tickAhead (st : Station) (cfg : ConfigRecord) : Station :=
  let st1 := st.peerTick cfg
  { st1 with peers := { st1.peers with tickTaken := true } }

end Sys2Proof.Machine
end

