-- ==== Sys2Proof/Machine/Supervise.lean ====
section
/-! DEFINITION. Chapter 8: judging a feedback against the masks, the windows and the tracking limit, and ESTOP. -/

namespace Sys2Proof.Machine

/-- The first check: a status condition in the trip mask reports AMP in a permit state, where the tripping status becomes
this status, and raises TRIP in IDLE (R159). -/
def Station.tripMaskCheck (st : Station) (cfg : ConfigRecord) (status : AmpStatus) : Station :=
  if inMask status cfg.tripMask then
    if st.ctl.mode.isPermit then
      ({ st with sup := { st.sup with trippingStatus := some status } } : Station).takeTrip cfg .amp (own cfg)
    else if st.ctl.mode = Mode.idle then st.raise .trip
    else st
  else st

/-- The second check: a status condition in the hold mask reports AMP in the run group (R160). -/
def Station.holdMaskCheck (st : Station) (cfg : ConfigRecord) (status : AmpStatus) : Station :=
  if inMask status cfg.holdMask ∧ st.ctl.mode.inRunGroup then st.reportReason cfg .amp else st

/-- Where a value lies against a window; a bound is inside (R162). -/
def windowOf (low high x : Int) : WindowResult := if x < low then .below else if high < x then .above else .inside

/-- The third check, in the run group: both results are kept and WINDOW is reported once if either lies outside; outside
the run group only the last check applied changes (R162, R165). -/
def Station.windowCheck (st : Station) (cfg : ConfigRecord) (force displacement : Int) : Station :=
  if st.ctl.mode.inRunGroup then
    let f := windowOf cfg.forceMin.toInt cfg.forceMax.toInt force
    let d := windowOf cfg.dispMin.toInt cfg.dispMax.toInt displacement
    let st1 : Station := { st with sup := { st.sup with forceWindow := some f, dispWindow := some d, lastApplied := some true } }
    if f ≠ .inside ∨ d ≠ .inside then st1.reportReason cfg .window else st1
  else { st with sup := { st.sup with lastApplied := some false } }

/-- The tracking counter takes a value (R164). -/
def Station.setTrack (st : Station) (n : Nat) : Station := { st with sup := { st.sup with trackCount := n } }

/-- The tracking counter reaches M: TRACK is reported and the counter becomes 0 (R164). -/
def Station.trackReached (st : Station) (cfg : ConfigRecord) : Station := (st.setTrack 0).reportReason cfg .track

/-- The fourth check: the tracking error is kept, and in the run group the tracking counter counts it or returns to 0;
outside the run group the counter becomes 0 (R163, R164). -/
def Station.trackCheck (st : Station) (cfg : ConfigRecord) (answered force displacement : Int) : Station :=
  let error := answered - (if roleIsDisplacement cfg then displacement else force)
  let st1 : Station := { st with sup := { st.sup with lastError := some error } }
  if st1.ctl.mode.inRunGroup then
    if cfg.trackingLimit.toNat < error.natAbs then
      if cfg.trackingCount.toNat ≤ st1.sup.trackCount + 1 then st1.trackReached cfg else st1.setTrack (st1.sup.trackCount + 1)
    else st1.setTrack 0
  else st1.setTrack 0

/-- The Supervision Unit judges a feedback: four checks in order, each on the station state as it then stands (R158). -/
def Station.supervise (st : Station) (cfg : ConfigRecord) (force displacement : Int) (status : AmpStatus) (answered : Int) : Station :=
  (((st.tripMaskCheck cfg status).holdMaskCheck cfg status).windowCheck cfg force displacement).trackCheck cfg answered force
    displacement

/-- ESTOP becoming active: the level is recorded, the event ESTOP is raised, and in a permit state the trip cause ESTOP is
taken (R166). -/
def Station.estopRises (st : Station) (cfg : ConfigRecord) : Station :=
  (({ st with sup := { st.sup with estopTaken := some true } } : Station).raise .estop).takeTrip cfg .estop (own cfg)

/-- ESTOP becoming inactive: the level is recorded (R166). -/
def Station.estopFalls (st : Station) : Station := { st with sup := { st.sup with estopTaken := some false } }

end Sys2Proof.Machine
end

