-- ==== Sys2Proof/Machine/Drive.lean ====
section
/-! DEFINITION. Chapter 7: the stages of the Drive Line Interface at an update, the two slots, the responses, the gain
schedule, drive silence, and the side requests. -/

namespace Sys2Proof.Machine

/-! ### Datagrams and responses (R200, R202) -/

/-- A COMMAND datagram: c in the upper 16 bits and its complement in the lower 16 (R200). -/
def commandDatagram (c : Int) : Datagram :=
  let w := BitVec.ofInt 16 c
  { isCommand := true, word := w ++ ~~~w }

/-- A SIDE datagram carries its word unchanged (R141, R200). -/
def sideDatagram (word : BitVec 32) : Datagram := { isCommand := false, word := word }

/-- Byte k of a response, byte 0 first on the line (R200). -/
def responseByte (bits : BitVec 48) (k : Nat) : Byte := bits.extractLsb' (40 - 8 * k) 8

/-- The five data bytes of a response (R200). -/
def responseData (bits : BitVec 48) : List Byte := (List.range 5).map (responseByte bits)

/-- Whether a response passes its check (R202). -/
def responseValid (bits : BitVec 48) : Bool := crc8 (responseData bits) == responseByte bits 5

/-- The force of a response to a COMMAND (R141, R200). -/
def responseForce (bits : BitVec 48) : Int := (bits.extractLsb' 32 16).toInt

/-- The displacement of a response to a COMMAND (R141, R200). -/
def responseDisplacement (bits : BitVec 48) : Int := (bits.extractLsb' 16 16).toInt

/-- The amplifier status of a response to a COMMAND (R141, R200). -/
def responseStatus (bits : BitVec 48) : AmpStatus := bits.extractLsb' 8 8

/-- The 32 reply bits of a response to a side or AUTO word (R141, R200). -/
def responseReply (bits : BitVec 48) : BitVec 32 := bits.extractLsb' 16 32

/-- The most words the side queue holds (R145). -/
def sideCapacity : Nat := 4

/-- The silence counter's bound, at which silence is reported (R139, R152). -/
def silenceBound : Nat := 48

/-! ### Responses (R146 to R148) -/

/-- The silence counter becomes 0 at a valid response (R146, R152). -/
def Station.heard (st : Station) : Station := { st with drive := { st.drive with silence := some 0 } }

/-- Feedback: the latest feedback is replaced, the Supervision Unit judges it with the answered command, and the own load
share is computed again (R147). -/
def Station.takeFeedback (st : Station) (cfg : ConfigRecord) (bits : BitVec 48) (answered : Int) : Station :=
  let force := responseForce bits
  let displacement := responseDisplacement bits
  let status := responseStatus bits
  let st1 : Station := { st with drive := { st.drive with
    force := some force, displacement := some displacement, ampStatus := some status } }
  (st1.recomputeShare cfg force).supervise cfg force displacement status answered

/-- The side reply: it replaces the one before, the new mark is set and SIDE-DONE is raised (R148). -/
def Station.takeSideReply (st : Station) (bits : BitVec 48) : Station :=
  ({ st with drive := { st.drive with sideReply := some (responseReply bits), newMark := true } } : Station).raise .sideDone

/-- A side word's response has failed its check: the side loss count rises, stopping at 255 (R148). -/
def Station.countSideLoss (st : Station) : Station :=
  { st with drive := { st.drive with sideLoss := min 255 (st.drive.sideLoss + 1) } }

/-- The bits that come in during a transfer are attributed by the kind of the transfer before it (R146). -/
def Station.takeResponse (st : Station) (cfg : ConfigRecord) (kind : TransferKind) (bits : BitVec 48) : Station :=
  match kind with
  | .none => st
  | .command =>
    if responseValid bits then st.heard.takeFeedback cfg bits (st.drive.answered.getD 0) else st
  | .side => if responseValid bits then st.heard.takeSideReply bits else st.countSideLoss
  | .auto => if responseValid bits then st.heard else st

/-! ### The stages of an update (R140) -/

/-- Stage 1: the silence counter increases by 1, stopping at 48 (R140, R152). -/
def Station.countSilence (st : Station) : Station :=
  { st with drive := { st.drive with silence := st.drive.silence.map fun n => min silenceBound (n + 1) } }

/-- The band moves to another, and the band's word is placed in the AUTO slot (R150, R151). -/
def Station.setBand (st : Station) (b : Band) (word : BitVec 32) : Station :=
  { st with drive := { st.drive with band := some b, autoSlot := some word } }

/-- Stage 2: the band is evaluated from the offer when the gain schedule is enabled (R150). -/
def Station.evaluateBand (st : Station) (cfg : ConfigRecord) (o : Offer) : Station :=
  let r := (o.command - o.previous).natAbs
  if gainEnabled cfg then
    match st.drive.band with
    | some .low => if cfg.threshold.toNat ≤ r then st.setBand .high cfg.highWord else st
    | some .high => if r < cfg.threshold.toNat - cfg.hysteresis.toNat then st.setBand .low cfg.lowWord else st
    | none => st
  else st

/-- Whether slot A makes a COMMAND transfer, the refresh counter having risen to n (R142). -/
def DriveLine.slotASends (d : DriveLine) (cfg : ConfigRecord) (c : Int) (n : Nat) : Bool :=
  d.lastSent != some c || n == cfg.refreshInterval.toNat || d.previousKind == .side || d.previousKind == .auto

/-- Stage 3: slot A opens; the refresh counter rises, and a COMMAND is sent if R142 calls for one. The answered command
keeps its value until the response that comes in has been attributed (R142). DEDUCED: the bits that come in during the
COMMAND are read as the response to the transfer before it (R140, R142, R146), whatever the last sentence of R202 says (log
entry 34). -/
def Station.slotA (st : Station) (cfg : ConfigRecord) (c : Int) (bits : BitVec 48) : Station :=
  let n := st.drive.refresh.getD 0 + 1
  if st.drive.slotASends cfg c n then
    let kind := st.drive.previousKind
    let st1 : Station := { st with drive := { st.drive with
      refresh := some 0, lastSent := some c, previousKind := .command, outA := some (commandDatagram c) } }
    let st2 := st1.takeResponse cfg kind bits
    { st2 with drive := { st2.drive with answered := some c } }
  else { st with drive := { st.drive with refresh := some n, outA := none } }

/-- Stage 4: slot B opens; the AUTO word goes first, then the head of the side queue; with neither there is no transfer
(R144). -/
def Station.slotB (st : Station) (cfg : ConfigRecord) (bits : BitVec 48) : Station :=
  let kind := st.drive.previousKind
  match st.drive.autoSlot, st.drive.sideQueue with
  | some w, _ =>
    ({ st with drive := { st.drive with autoSlot := none, previousKind := .auto, outB := some (sideDatagram w) } } :
      Station).takeResponse cfg kind bits
  | none, w :: rest =>
    ({ st with drive := { st.drive with sideQueue := rest, previousKind := .side, outB := some (sideDatagram w) } } :
      Station).takeResponse cfg kind bits
  | none, [] => { st with drive := { st.drive with outB := none } }

/-- A silence report: DRIVE-SILENT is raised, and in a permit state the trip cause DRIVE-SILENT is taken (R152). -/
def Station.reportSilence (st : Station) (cfg : ConfigRecord) : Station :=
  (st.raise .driveSilent).takeTrip cfg .driveSilent (own cfg)

/-- Stage 5: silence is reported if the counter stands at 48 (R140, R152). -/
def Station.checkSilence (st : Station) (cfg : ConfigRecord) : Station :=
  if st.drive.silence = some silenceBound then st.reportSilence cfg else st

/-- The Drive Line Interface's work at an update, opened by the Replay Engine's offer (R140). -/
def Station.driveUpdate (st : Station) (cfg : ConfigRecord) (inA inB : BitVec 48) : Station :=
  match st.engine.offered with
  | none => st
  | some o =>
    ((((st.countSilence.evaluateBand cfg o).slotA cfg o.command inA).slotB cfg inB).checkSilence cfg)

/-! ### The side requests (R145, R149) -/

/-- SIDE-SEND is taken: the word joins the side queue if it has room (R145). -/
def Station.takeSideSend (st : Station) (kind : Byte) (word : BitVec 32) : Station :=
  if st.ctl.mode = Mode.unconfigured then st.answer kind .badState []
  else if sideCapacity ≤ st.drive.sideQueue.length then st.answer kind .full []
  else
    ({ st with drive := { st.drive with sideQueue := st.drive.sideQueue ++ [word] } } : Station).answer kind .ok
      [codeByte (st.drive.sideQueue.length + 1)]

/-- SIDE-READ is taken: the side reply, the new mark, the words queued, whether a host word awaits its reply, and the loss
count; the new mark is cleared (R149). DESIGN CHOICE: the reply of UNCONFIGURED has the same five fields, though R149 names four
there: no host word awaits its reply, as the previous transfer kind NONE of R139 says (log entry 36). -/
def Station.takeSideRead (st : Station) (kind : Byte) : Station :=
  let body := leOptional 4 (st.drive.sideReply.map (·.toNat)) ++
    [boolByte st.drive.newMark, codeByte st.drive.sideQueue.length, boolByte (st.drive.previousKind == .side),
      codeByte st.drive.sideLoss]
  ({ st with drive := { st.drive with newMark := false } } : Station).answer kind .ok body

end Sys2Proof.Machine
end

