-- ==== Sys2Proof/Machine/Link.lean ====
section
/-! DEFINITION. Chapter 6: rig link frames as bytes, the taking of a received frame by the Peer Table and the Station
Controller, idle points, attempts and their outcomes, dropped frames; and what START, RESUME and the other run requests of
chapter 4 do once they are taken. -/

namespace Sys2Proof.Machine

/-! ### Frames as bytes (R123, R198) -/

/-- The arbitration class of a frame's kind (R123). -/
def FrameBody.cls : FrameBody → Nat
  | .trip _ => 0
  | .go .. | .hold _ | .resume .. => 1
  | .beat _ => 2

/-- The kind byte (R198). -/
def FrameBody.kindByte : FrameBody → Byte
  | .trip _ => 0x01#8 | .go .. => 0x02#8 | .hold _ => 0x03#8 | .resume .. => 0x04#8 | .beat _ => 0x05#8

/-- The arbitration key: class × 32 + station number (R123). -/
def RigFrame.key (f : RigFrame) : Nat := f.body.cls * 32 + f.sender.val

/-- The fields of a kind in order, most significant byte first (R195, R198). -/
def FrameBody.fieldBytes : FrameBody → List Byte
  | .trip cause => [cause]
  | .go fp pass whole => beBytes 2 fp.toNat ++ beBytes 4 pass.toNat ++ beBytes 6 whole.toNat
  | .hold reasons => beBytes 2 reasons.toNat
  | .resume fp pass whole => beBytes 2 fp.toNat ++ beBytes 4 pass.toNat ++ beBytes 6 whole.toNat
  | .beat f =>
    [f.state, f.group, f.flags] ++ beBytes 2 f.fingerprint.toNat ++ beBytes 2 f.pass.toNat ++ beBytes 4 f.whole.toNat ++
      beBytes 2 f.fraction.toNat ++ beBytes 2 f.reasons.toNat ++ beBytes 3 f.share.toNat

/-- The key, the kind and the fields: what the CRC runs over (R123). -/
def RigFrame.checked (f : RigFrame) : List Byte := BitVec.ofNat 8 f.key :: f.body.kindByte :: f.body.fieldBytes

/-- The whole frame as it travels, CRC high byte first (R198, R201). -/
def RigFrame.bytes (f : RigFrame) : List Byte := f.checked ++ beBytes 2 (crc16 crcInitLink f.checked).toNat

/-- The length in bytes that a kind byte calls for (R198); an unknown kind has none (R133). -/
def frameLength (kind : Byte) : Option Nat :=
  match kind.toNat with
  | 1 => some 5 | 2 => some 16 | 3 => some 6 | 4 => some 16 | 5 => some 22 | _ => none

/-- The class of a kind byte (R123). -/
def classOfKind (kind : Byte) : Nat := if kind = 0x01#8 then 0 else if kind = 0x05#8 then 2 else 1

/-- The fields read from a frame of a known kind and of that kind's length (R198). -/
def bodyOfBytes (kind : Byte) (bytes : List Byte) : FrameBody :=
  let field (offset n : Nat) : Nat := ofBe ((bytes.drop offset).take n)
  match kind.toNat with
  | 1 => .trip (BitVec.ofNat 8 (field 2 1))
  | 2 => .go (BitVec.ofNat 16 (field 2 2)) (BitVec.ofNat 32 (field 4 4)) (BitVec.ofNat 48 (field 8 6))
  | 3 => .hold (BitVec.ofNat 16 (field 2 2))
  | 4 => .resume (BitVec.ofNat 16 (field 2 2)) (BitVec.ofNat 32 (field 4 4)) (BitVec.ofNat 48 (field 8 6))
  | _ => .beat
      { state := BitVec.ofNat 8 (field 2 1), group := BitVec.ofNat 8 (field 3 1), flags := BitVec.ofNat 8 (field 4 1),
        fingerprint := BitVec.ofNat 16 (field 5 2), pass := BitVec.ofNat 16 (field 7 2), whole := BitVec.ofNat 32 (field 9 4),
        fraction := BitVec.ofNat 16 (field 13 2), reasons := BitVec.ofNat 16 (field 15 2), share := BitVec.ofNat 24 (field 17 3) }

/-- The checks of R133 on the bytes that the line carried from a frame's start until it fell idle: no fewer of them than the
kind calls for, a known kind, a key of the table of R123 whose class is the kind's, and the CRC. The frame ends at the length
its kind calls for, so bytes after that are no part of it. A frame that passes is valid; one that fails any check is none. -/
def readFrame (bytes : List Byte) : Option RigFrame :=
  match bytes with
  | key :: kind :: _ =>
    match frameLength kind with
    | none => none
    | some n =>
      if h : n ≤ bytes.length ∧ key.toNat / 32 = classOfKind kind ∧ key.toNat % 32 < 24 ∧
          (crc16 crcInitLink (bytes.take (n - 2))).toNat = ofBe ((bytes.take n).drop (n - 2)) then
        some { sender := ⟨key.toNat % 32, h.2.2.1⟩, body := bodyOfBytes kind bytes }
      else none
  | _ => none

/-! ### Taking a received frame (R70, R76, R77, R86, R87, R93, R99, R120, R135) -/

/-- COUNTDOWN is entered at a frame's position, fraction 0 and park mark NONE (R42, R76, R86). -/
def Station.beginCountdown (st : Station) (cfg : ConfigRecord) (pass whole : Nat) : Station :=
  (st.setPosition { pass := pass, whole := whole, fraction := 0, park := .none }).enterMode cfg .countdown

/-- g is set to 0 at a GO taken (R51, R76). -/
def Station.zeroFade (st : Station) : Station :=
  { st with engine := { st.engine with regs := st.engine.regs.map fun r => { r with fade := 0 } } }

/-- Whether a frame's fingerprint is the station's own and its position legal (R76, R86). -/
def Station.matchesSchedule (st : Station) (fp : BitVec 16) (pass : BitVec 32) (whole : BitVec 48) : Bool :=
  st.fingerprint? == some fp && st.legal pass.toNat whole.toNat

/-- A received GO: a peer's removes an own GO unsent from the CONTROL slot; in ARMED, with the own fingerprint and a legal
position, it is taken (R76, R77). -/
def Station.receiveGo (st : Station) (cfg : ConfigRecord) (bySelf : Bool) (fp : BitVec 16) (pass : BitVec 32) (whole : BitVec 48) :
    Station :=
  let st1 := if bySelf = false ∧ isGo st.link.controlSlot then st.emptyControl else st
  if st1.ctl.mode = Mode.armed ∧ st1.matchesSchedule fp pass whole then
    (st1.zeroFade.clearRunMarks).beginCountdown cfg pass.toNat whole.toNat
  else st1

/-- A received HOLD: from a peer it is taken as the reason PEER in COUNTDOWN, RAMP-IN, PLAYING, RAMP-OUT and HELD; one that
bears the own number is not taken (R70). -/
def Station.receiveHold (st : Station) (cfg : ConfigRecord) (sender : StationNo) : Station :=
  if sender = own cfg then st
  else match st.ctl.mode with
    | .countdown | .rampIn | .playing | .rampOutMoving | .rampOutParked | .held => st.takeReason cfg .peer sender
    | .unconfigured | .idle | .armed | .ending | .complete | .tripped => st

/-- A received RESUME: in HELD, with the own fingerprint and a legal position, it is taken if the latched set is empty and
answered with a HOLD frame if it is not (R86, R87). -/
def Station.receiveResume (st : Station) (cfg : ConfigRecord) (fp : BitVec 16) (pass : BitVec 32) (whole : BitVec 48) : Station :=
  if st.ctl.mode = Mode.held ∧ st.matchesSchedule fp pass whole then
    if latchedSet st.ctl.reasons = 0#10 then
      ({ st with ctl := { st.ctl with reasons := withoutResumable st.ctl.reasons, holdRecord := none } } : Station).beginCountdown
        cfg pass.toNat whole.toNat
    else st.placeControl (holdBody st.ctl.reasons)
  else st

/-- A received TRIP: in a permit state it is taken as PEER-TRIP, unless this station completed that frame itself (R93). -/
def Station.receiveTrip (st : Station) (cfg : ConfigRecord) (sender : StationNo) (bySelf : Bool) : Station :=
  if bySelf then st else st.takeTrip cfg .peerTrip sender

/-- A received BEAT: an own one, and one of the own number, is passed over; any other is entered and then tested for the
hold flag and for a tripped peer (R99). -/
def Station.receiveBeat (st : Station) (cfg : ConfigRecord) (sender : StationNo) (f : BeatFields) : Station :=
  if sender = own cfg then st
  else ((st.enterBeat sender f).testHoldFlag cfg sender f).testTripped cfg sender f

/-- Whether a valid frame is a clash: it bears the own number and this station did not complete it itself (R120, R135). -/
def isClash (cfg : ConfigRecord) (f : RigFrame) (bySelf : Bool) : Bool := f.sender == own cfg && !bySelf

/-- A valid frame is delivered with its sent-by-self mark: tested for a clash first, then taken by its kind; a control
frame is also offered to the Peer Table's last-control field (R101, R120, R135). -/
def Station.deliver (st : Station) (cfg : ConfigRecord) (f : RigFrame) (bySelf : Bool) : Station :=
  let st1 := if isClash cfg f bySelf then st.reportClash cfg else st
  match f.body with
  | .beat b => st1.receiveBeat cfg f.sender b
  | .go fp pass whole => (st1.receiveGo cfg bySelf fp pass whole).recordControl cfg f.sender .go
  | .hold reasons => (st1.receiveHold cfg f.sender).recordControl cfg f.sender (.hold (reasons.setWidth 10))
  | .resume fp pass whole =>
    (st1.receiveResume cfg fp pass whole).recordControl cfg f.sender (.resume pass.toNat whole.toNat)
  | .trip cause => (st1.receiveTrip cfg f.sender bySelf).recordControl cfg f.sender (.trip cause)

/-- The frame that this station completed and has not yet taken is delivered, marked as sent by itself (R129, R136). -/
def Station.takeOwnFrame (st : Station) (cfg : ConfigRecord) : Station :=
  match st.link.ownEnded with
  | none => st
  | some f => ({ st with link := { st.link with ownEnded := none } } : Station).deliver cfg f true

/-- The frame that this station aborted, if it has, is no longer on the line (R131; log entry 35). -/
def Station.abortOver (st : Station) : Station := { st with link := { st.link with ownAborted := false } }

/-- A valid frame ends on the line. One that is this station's own is delivered with the sent-by-self mark; before any other
the own frame that ended earlier is delivered, and then this one with the mark clear. A frame is the own one only if this
station has completed that very frame (R135; log entry 16). -/
def Station.receive (st : Station) (cfg : ConfigRecord) (sender : Sender) (body : FrameBody) : Station :=
  let f : RigFrame := { sender := sender.number, body := body }
  if sender.bySelf = true ∧ st.link.ownEnded = some f then st.abortOver.takeOwnFrame cfg
  else (st.abortOver.takeOwnFrame cfg).deliver cfg f false

/-- A dropped frame: the link error count rises, saturating, and LINK-ERROR is raised (R133, R134). -/
def Station.dropFrame (st : Station) : Station :=
  ({ st with link := { st.link with linkErrors := min 65535 (st.link.linkErrors + 1) } } : Station).raise .linkError

/-- A frame that fails a check ends on the line. The cut-short end of this station's own aborted frame, which no other station
drives, is neither counted nor raised; any other is dropped, one that another station drives on to its end after the abort among
them (R131, R133; log entry 35). -/
def Station.badFrameEnds (st : Station) (otherDriving : Bool) : Station :=
  if st.link.ownAborted = true ∧ otherDriving = false then st.abortOver else st.abortOver.dropFrame

/-! ### Idle points and attempts (R129 to R132) -/

/-- A slot's frame with its latch set or cleared (R130). -/
def SlotFrame.withLatch (latched : Bool) (f : SlotFrame) : SlotFrame := { f with latched := latched }

/-- The filled slot of the lowest class is chosen and its frame latched; a BEAT takes the station's values at this moment
(R129). -/
def Station.beginAttempt (st : Station) (cfg : ConfigRecord) : Station :=
  match st.link.tripSlot, st.link.controlSlot, st.link.beatSlot with
  | some f, _, _ => { st with link := { st.link with
      tripSlot := some (f.withLatch true), attempt := some { slot := .trip, frame := { sender := own cfg, body := f.body } } } }
  | none, some f, _ => { st with link := { st.link with
      controlSlot := some (f.withLatch true), attempt := some { slot := .control, frame := { sender := own cfg, body := f.body } } } }
  | none, none, true => { st with link := { st.link with
      attempt := some { slot := .beat, frame := { sender := own cfg, body := .beat (st.beatNow cfg) } } } }
  | none, none, false => st

/-- An idle point: no frame is on the line, the frame received and not yet taken is taken, and then the station begins an
attempt if a slot is filled and no attempt is under way (R129). -/
def Station.idlePoint (st : Station) (cfg : ConfigRecord) : Station :=
  let st1 := st.abortOver.takeOwnFrame cfg
  match st1.link.attempt with
  | none => st1.beginAttempt cfg
  | some _ => st1

/-- An attempt ends without completing: every slot keeps what it holds, and the next idle point latches afresh (R130). -/
def Station.endAttempt (st : Station) : Station :=
  { st with link := { st.link with
      attempt := none
      tripSlot := st.link.tripSlot.map (SlotFrame.withLatch false)
      controlSlot := st.link.controlSlot.map (SlotFrame.withLatch false) } }

/-- A slot after its attempt completes: emptied if it still holds the frame that was latched (R130). -/
def afterCompletion : Option SlotFrame → Option SlotFrame
  | none => none
  | some f => if f.latched then none else some f

/-- An attempt completes: its slot is emptied under R130, the consecutive abort count becomes 0, and the frame has been
received by this station too (R130, R131, R132, R136). -/
def Station.completeAttempt (st : Station) (a : Attempt) : Station :=
  let link1 := match a.slot with
    | .trip => { st.link with tripSlot := afterCompletion st.link.tripSlot }
    | .control => { st.link with controlSlot := afterCompletion st.link.controlSlot }
    | .beat => { st.link with beatSlot := false }
  { st with link := { link1 with attempt := none, aborts := 0, ownEnded := some a.frame } }

/-- The abort that would bring the consecutive abort count to 16: the count becomes 0, LINK-ERROR is raised and LINK is
reported (R132). -/
def Station.abortLimit (st : Station) (cfg : ConfigRecord) : Station :=
  (({ st with link := { st.link with aborts := 0 } } : Station).raise .linkError).reportReason cfg .link

/-- The attempt stops with an abort: every slot keeps what it holds, and the frame on the line is known as the own abort
until it ends (R130, R131; log entry 35). -/
def Station.stopAborted (st : Station) : Station :=
  { st.endAttempt with link := { st.endAttempt.link with ownAborted := true } }

/-- An attempt aborts: the consecutive abort count increases by 1, or meets its limit (R131, R132). -/
def Station.abortAttempt (st : Station) (cfg : ConfigRecord) : Station :=
  let st1 := st.stopAborted
  if 16 ≤ st1.link.aborts + 1 then st1.abortLimit cfg
  else { st1 with link := { st1.link with aborts := st1.link.aborts + 1 } }

/-! ### The run requests (R68 to R95) -/

/-- The number of the first condition of ARM that fails, with the entry index of condition 2 (R72). -/
def Station.armFailure (st : Station) : Option (List Byte) :=
  if st.schedule.playlist.length = 0 then some [1]
  else match st.schedule.playlist.findIdx? fun e => !(st.segment e.segment).isReady with
    | some i => some [2, codeByte i]
    | none =>
      if ((st.drive.silence.map fun n => decide (n < silenceBound)).getD false) = false then some [3]
      else if ((st.drive.ampStatus.map showsNotReady).getD true) then some [4]
      else if st.sup.estopTaken = some true then some [5]
      else if st.ctl.clash then some [6]
      else none

/-- An accepted ARM (R73): the tables are computed and frozen, the position is set and the counts zeroed (R37), the hold
and trip records emptied, the tracking counter zeroed and the tripping status emptied (R157), and ARMED entered. -/
def Station.armNow (st : Station) (cfg : ConfigRecord) : Station :=
  let st1 : Station := { st with
    schedule := { st.schedule with tables := some st.computeTables }
    engine := { st.engine with
      position := some { pass := 1, whole := 0, fraction := 0, park := .none }, clampCount := 0, rateCount := 0 }
    ctl := { st.ctl with holdRecord := none, tripRecord := none }
    sup := { st.sup with trackCount := 0, trippingStatus := none } }
  st1.enterMode cfg .armed

/-- ARM is taken: IDLE, then the conditions of R72 in order, then R73. -/
def Station.takeArm (st : Station) (cfg : ConfigRecord) (kind : Byte) : Station :=
  if st.ctl.mode ≠ Mode.idle then st.answer kind .badState []
  else match st.armFailure with
    | some condition => st.answer kind .notReady condition
    | none => (st.armNow cfg).answer kind .ok (leBytes 2 st.fingerprintNow.toNat)

/-- DISARM is taken: in ARMED, HELD and COMPLETE the station enters IDLE (R74). -/
def Station.takeDisarm (st : Station) (cfg : ConfigRecord) (kind : Byte) : Station :=
  match st.ctl.mode with
  | .armed | .held | .complete => (st.enterIdle cfg).answer kind .ok []
  | .unconfigured | .idle | .countdown | .rampIn | .playing | .rampOutMoving | .rampOutParked | .ending | .tripped =>
    st.answer kind .badState []

/-- The start position of a START: the one it carries, or pass 1, whole 0 (R75). -/
def startPosition (position : Option (BitVec 32 × BitVec 48)) : BitVec 32 × BitVec 48 := position.getD (1#32, 0#48)

/-- START is taken: ARMED, a legal position, and every expected peer ready, or the first of these that fails; then a GO is
placed (R75). -/
def Station.takeStart (st : Station) (cfg : ConfigRecord) (kind : Byte) (position : Option (BitVec 32 × BitVec 48)) : Station :=
  let p := startPosition position
  if st.ctl.mode ≠ Mode.armed then st.answer kind .badState []
  else if st.legal p.1.toNat p.2.toNat = false then st.answer kind .badArg []
  else match st.firstUnready cfg .armed with
    | some k => st.answer kind .notReady [codeByte k.val]
    | none => (st.placeControl (.go (st.fingerprint?.getD 0) p.1 p.2)).answer kind .ok []

/-- HOLD is taken: in COUNTDOWN, RAMP-IN and PLAYING it starts a hold with HOST, and in HELD it adds HOST (R69). -/
def Station.takeHold (st : Station) (cfg : ConfigRecord) (kind : Byte) : Station :=
  match st.ctl.mode with
  | .countdown | .rampIn | .playing | .held => (st.reportReason cfg .host).answer kind .ok []
  | .unconfigured | .idle | .armed | .rampOutMoving | .rampOutParked | .ending | .complete | .tripped => st.answer kind .badState []

/-- RESUME is taken: HELD with a park mark other than END, an empty latched set, and every expected peer ready, or the first
of these that fails; then a RESUME frame with the resume position is placed (R35, R85). -/
def Station.takeResume (st : Station) (cfg : ConfigRecord) (kind : Byte) : Station :=
  let p := st.positionNow
  if st.ctl.mode ≠ Mode.held ∨ p.park = .finish then st.answer kind .badState []
  else if latchedSet st.ctl.reasons ≠ 0#10 then st.answer kind .notReady (leBytes 2 (latchedSet st.ctl.reasons).toNat)
  else match st.firstUnready cfg .held with
    | some k => st.answer kind .notReady [codeByte k.val]
    | none =>
      let r := st.resumePosition p
      (st.placeControl (.resume (st.fingerprint?.getD 0) (BitVec.ofNat 32 r.1) (BitVec.ofNat 48 r.2))).answer kind .ok []

/-- ACKNOWLEDGE is taken: in every configured state the latched reasons named leave the set (R68, R199). -/
def Station.takeAcknowledge (st : Station) (kind : Byte) (reasons : BitVec 16) : Station :=
  if st.ctl.mode = Mode.unconfigured then st.answer kind .badState []
  else
    let set := st.ctl.reasons &&& ~~~(latchedSet (reasons.setWidth 10))
    ({ st with ctl := { st.ctl with reasons := set } } : Station).answer kind .ok (leBytes 2 set.toNat)

/-- ABORT is taken: in a permit state it is the trip cause HOST (R94). -/
def Station.takeAbort (st : Station) (cfg : ConfigRecord) (kind : Byte) : Station :=
  if st.ctl.mode.isPermit then (st.takeTrip cfg .host (own cfg)).answer kind .ok [] else st.answer kind .badState []

/-- CLEAR-TRIP is taken: in TRIPPED, with ESTOP inactive, the station enters IDLE (R95). -/
def Station.takeClearTrip (st : Station) (cfg : ConfigRecord) (kind : Byte) : Station :=
  if st.ctl.mode ≠ Mode.tripped then st.answer kind .badState []
  else if st.sup.estopTaken = some true then st.answer kind .notReady []
  else (st.enterIdle cfg).answer kind .ok []

end Sys2Proof.Machine
end

