-- ==== Sys2Proof/Machine/Configure.lean ====
section
/-! DEFINITION. Chapter 10: the checks of the CONFIGURE record, its acceptance, IDENTIFY, and the Event Set's requests. -/

namespace Sys2Proof.Machine

/-- The checks of the CONFIGURE record in index order, each with whether its field is legal (R187, R188). A field that
depends on an earlier one is checked against that field as received. -/
def recordChecks (r : ConfigRecord) : List (Nat × Bool) :=
  [ (1, decide (r.stationNumber.toNat ≤ 23)),
    (2, decide (r.group.toNat ≤ 7)),
    (3, decide (r.role.toNat ≤ 1)),
    (5, decide (r.sampleRate.toNat = 256 ∨ r.sampleRate.toNat = 512 ∨ r.sampleRate.toNat = 1024 ∨ r.sampleRate.toNat = 2048)),
    (6, decide (r.beatInterval.toNat = 8 ∨ r.beatInterval.toNat = 16 ∨ r.beatInterval.toNat = 32)),
    (7, decide (512 ≤ r.fadeLength.toNat)),
    (8, decide (1 ≤ r.levelStep.toNat ∧ r.levelStep.toNat ≤ 1024)),
    (10, decide (-32767 ≤ cMin r)),
    (11, decide (-32767 ≤ cMax r ∧ cMin r < cMax r)),
    (12, decide (cMin r ≤ offset r ∧ offset r ≤ cMax r)),
    (13, decide (1 ≤ r.rateLimit.toNat ∧ r.rateLimit.toNat ≤ 65534)),
    (14, decide (1 ≤ r.slipLimit.toNat ∧ r.slipLimit.toNat ≤ 64)),
    (16, decide (r.forceMin.toInt < r.forceMax.toInt)),
    (18, decide (r.dispMin.toInt < r.dispMax.toInt)),
    (19, decide (1 ≤ r.trackingLimit.toNat)),
    (20, decide (1 ≤ r.trackingCount.toNat)),
    (25, decide (1 ≤ r.refreshInterval.toNat ∧ r.refreshInterval.toNat ≤ 16)),
    (26, decide (r.gainEnable.toNat ≤ 1)),
    (27, decide (1 ≤ r.threshold.toNat)),
    (28, decide (r.hysteresis.toNat < r.threshold.toNat)),
    (31, r.attentionMask.getLsbD 15 == false) ]

/-- The index of the first field of the record that fails its check, if one does (R188). -/
def firstBadField (r : ConfigRecord) : Option Nat := ((recordChecks r).find? fun c => !c.2).map (·.1)

/-- A record whose every field is legal (R187). -/
def legalRecord (r : ConfigRecord) : Bool := (recordChecks r).all (·.2)

/-- The registers of the Replay Engine at an accepted CONFIGURE (R37). -/
def configuredRegs (cfg : ConfigRecord) : EngineRegs :=
  { increment := nominal cfg, fade := 0, level := cfg.initialLevel.toNat, target := cfg.initialLevel.toNat, command := offset cfg,
    commandPrev := offset cfg }

/-- The Drive Line Interface at an accepted CONFIGURE (R139, R151). -/
def configuredDrive (cfg : ConfigRecord) : DriveLine :=
  { DriveLine.reset with
    refresh := some 0
    autoSlot := if gainEnabled cfg then some cfg.lowWord else none
    band := if gainEnabled cfg then some .low else none
    ampStatus := some notReadyAlone
    silence := some 0 }

/-- An accepted CONFIGURE, taken whole: every block takes its CONFIGURE values, IDLE is entered and STATE raised, and an
ESTOP that is active is taken as becoming active in IDLE (R189, R166). -/
def Station.configureNow (st : Station) (cfg : ConfigRecord) : Station :=
  let st1 : Station := { st with
    config := some cfg
    engine := { ReplayEngine.reset with regs := some (configuredRegs cfg) }
    ctl := { Controller.reset with mode := st.ctl.mode, clash := st.ctl.clash }
    peers := { PeerTable.reset with beatCounter := some 0 }
    link := RigLink.reset
    drive := configuredDrive cfg
    sup := { Supervision.reset with estopTaken := some false }
    port := { st.port with
      reportInterval := some cfg.reportInterval.toNat, reportTimer := some 0, reportPending := false, reportTaken := false }
    events := { st.events with mask := some (cfg.attentionMask.setWidth 15) } }
  let st2 := st1.enterMode cfg .idle
  if st.estopLine then st2.estopRises cfg else st2

/-- CONFIGURE is taken: refused BAD-STATE outside UNCONFIGURED, then checked field by field, and accepted when every check
passes; the reply carries the station number and the group (R71, R188, R189). -/
def Station.takeConfigure (st : Station) (kind : Byte) (record : ConfigRecord) : Station :=
  if st.ctl.mode ≠ Mode.unconfigured then st.answer kind .badState []
  else match firstBadField record with
    | some index => st.answer kind .badArg [codeByte index]
    | none => (st.configureNow record).answer kind .ok [record.stationNumber, record.group]

/-- The number of records that are not EMPTY (R192). -/
def Station.segmentsHeld (st : Station) : Nat := st.segments.toList.countP fun s => !s.isEmpty

/-- IDENTIFY is taken: answered in every state; it changes nothing (R192). -/
def Station.takeIdentify (st : Station) (kind : Byte) : Station :=
  st.answer kind .ok
    (leBytes 2 2416 ++ leBytes 1 Config.designRevision ++ leBytes 2 pageTotal ++ leBytes 2 pageSize ++
      [codeByte 64, codeByte playlistCapacity, codeByte st.ctl.mode.code] ++
      leOptional 1 (st.config.map (·.stationNumber.toNat)) ++ leOptional 1 (st.config.map (·.group.toNat)) ++
      [codeByte st.startKind.code, codeByte st.segmentsHeld])

/-- EVENTS-READ is taken: the latched set and the attention mask; it clears nothing (R182). -/
def Station.takeEventsRead (st : Station) (kind : Byte) : Station :=
  st.answer kind .ok (leBytes 2 st.events.latched.toNat ++ leOptional 2 (st.events.mask.map (·.toNat)))

/-- EVENTS-CLEAR is taken: in every configured state the named events leave the latched set (R183, R199). -/
def Station.takeEventsClear (st : Station) (kind : Byte) (events : BitVec 16) : Station :=
  if st.ctl.mode = Mode.unconfigured then st.answer kind .badState []
  else
    let ev := st.events.clear (events.setWidth 15)
    ({ st with events := ev } : Station).answer kind .ok (leBytes 2 ev.latched.toNat)

/-- REPORT-RATE is taken: n takes the value, the report timer becomes 0, and a pending report is cleared when the new n is 0
(R185). -/
def Station.takeReportRate (st : Station) (kind : Byte) (n : BitVec 8) : Station :=
  if st.ctl.mode = Mode.unconfigured then st.answer kind .badState []
  else
    ({ st with port := { st.port with
        reportInterval := some n.toNat, reportTimer := some 0,
        reportPending := st.port.reportPending && n.toNat != 0, reportTaken := false } } : Station).answer kind .ok []

end Sys2Proof.Machine
end

