-- ==== Sys2Proof/Machine/Picture.lean ====
section
/-! DEFINITION. The bodies of the STATUS and REPORT frames (R180, R186, R196) and of the PEER-READ reply (R102). -/

namespace Sys2Proof.Machine

/-! ### STATUS (R180) -/

/-- A field of a STATUS body that may be absent: whether it is present, and its bytes, zero when absent (R196). -/
abbrev PictureField := Bool × List Byte

/-- A field of n bytes that may be absent. -/
def pictured (n : Nat) (v : Option Nat) : PictureField := (v.isSome, leBytes n (v.getD 0))

/-- A signed field of n bytes that may be absent. -/
def picturedSigned (n : Nat) (v : Option Int) : PictureField := (v.isSome, leSigned n (v.getD 0))

/-- The presence word: bit k set when the field numbered k is present (R196). -/
def presenceWord : List Bool → Nat
  | [] => 0
  | b :: rest => b.toNat + 2 * presenceWord rest

/-- The hold record in 15 bytes: its presence byte, first reason, origin, pass, whole position and fraction (R67, R196). -/
def holdRecordBytes : Option HoldRecord → List Byte
  | none => leBytes 15 0
  | some r => [1, codeByte r.first.code, codeByte r.origin.val] ++ leBytes 4 r.pass ++ leBytes 6 r.whole ++ leBytes 2 r.fraction

/-- The trip record in 17 bytes: its presence byte, cause, origin, state at trip, and the position with its park mark
(R90, R196). -/
def tripRecordBytes : Option TripRecord → List Byte
  | none => leBytes 17 0
  | some r =>
    [1, codeByte r.cause.code, codeByte r.origin.val, codeByte r.state.code] ++ leBytes 4 r.position.pass ++
      leBytes 6 r.position.whole ++ leBytes 2 r.position.fraction ++ [codeByte r.position.park.code]

/-- A value that is absent in UNCONFIGURED (R180). -/
def Station.configured (st : Station) {α : Type} (v : α) : Option α := if st.ctl.mode = .unconfigured then none else some v

/-- What the whole position maps to, while the station has a position (R28, R180). -/
def Station.mappedNow (st : Station) : Option Mapped := st.engine.position.bind fun p => st.mapWhole p.whole

/-- The fields that may be absent of the Station Controller group: the countdown and the clash mark (R180, R196). -/
def Station.controllerFields (st : Station) : List PictureField :=
  [pictured 1 st.ctl.countdown, pictured 1 (st.configured st.ctl.clash.toNat)]

/-- The fields that may be absent of the Replay Engine and Schedule group (R180, R196). -/
def Station.replayFields (st : Station) : List PictureField :=
  let p := st.engine.position
  let r := st.engine.regs
  let m := st.mappedNow
  [pictured 4 (p.map (·.pass)), pictured 6 (p.map (·.whole)), pictured 2 (p.map (·.fraction)), pictured 1 (p.map (·.park.code)),
    pictured 1 (m.map (·.index)), pictured 2 (m.map (·.repetition)), pictured 3 (m.map (·.sample)),
    pictured 2 (r.map (·.increment)), pictured 2 (r.map (·.fade)), pictured 2 (r.map (·.level)), pictured 2 (r.map (·.target)),
    picturedSigned 2 (r.map (·.command)), picturedSigned 2 (r.map (·.commandPrev))]

/-- The fields that may be absent of the Drive Line Interface group (R180, R196). -/
def Station.driveFields (st : Station) : List PictureField :=
  let d := st.drive
  [picturedSigned 2 d.force, picturedSigned 2 d.displacement, pictured 1 (d.ampStatus.map (·.toNat)), picturedSigned 2 d.answered,
    pictured 1 (d.band.map (·.code)), pictured 1 d.silence, pictured 1 (st.configured d.sideQueue.length)]

/-- The fields that may be absent of the Supervision Unit group (R157, R180, R196). -/
def Station.supervisionFields (st : Station) : List PictureField :=
  let u := st.sup
  [pictured 1 (u.forceWindow.map (·.code)), pictured 1 (u.dispWindow.map (·.code)), picturedSigned 3 u.lastError,
    pictured 1 (u.lastApplied.map (·.toNat)), pictured 1 (u.trippingStatus.map (·.toNat)), pictured 1 (u.estopTaken.map (·.toNat))]

/-- The field that may be absent of the Host Port group: the report interval n (R180, R196). -/
def Station.portFields (st : Station) : List PictureField := [pictured 1 st.port.reportInterval]

/-- The bytes of fields in order. -/
def fieldBytesOf (fields : List PictureField) : List Byte := fields.flatMap (·.2)

/-- The 29 fields that may be absent, in layout order (R196; log entry 12). -/
def Station.absentable (st : Station) : List PictureField :=
  st.controllerFields ++ st.replayFields ++ st.driveFields ++ st.supervisionFields ++ st.portFields

/-- The body of a STATUS reply and of a REPORT: the presence word, then the groups of R180 in order (R180, R186, R196). -/
def Station.statusBody (st : Station) : List Byte :=
  leBytes 4 (presenceWord (st.absentable.map (·.1))) ++
    [codeByte st.ctl.mode.code] ++ leBytes 2 st.ctl.reasons.toNat ++ holdRecordBytes st.ctl.holdRecord ++
    tripRecordBytes st.ctl.tripRecord ++ fieldBytesOf st.controllerFields ++
    fieldBytesOf st.replayFields ++ leBytes 4 st.engine.clampCount ++ leBytes 4 st.engine.rateCount ++
    fieldBytesOf st.driveFields ++
    [codeByte st.sup.trackCount] ++ fieldBytesOf st.supervisionFields ++
    leBytes 2 st.link.linkErrors ++ [codeByte st.link.aborts] ++
    leBytes 2 st.events.latched.toNat ++
    leBytes 2 st.port.overrun ++ fieldBytesOf st.portFields

/-- STATUS is taken: answered in every state; it changes nothing (R180). -/
def Station.takeStatus (st : Station) (kind : Byte) : Station := st.answer kind .ok st.statusBody

/-! ### PEER-READ (R102) -/

/-- The last control detail in ten bytes: a HOLD's reasons, a RESUME's pass and whole position, a TRIP's cause, the bytes
not used as zero (R196). -/
def controlDetail : ControlSeen → List Byte
  | .go => leBytes 10 0
  | .hold reasons => leBytes 2 reasons.toNat ++ leBytes 8 0
  | .resume pass whole => leBytes 4 pass ++ leBytes 6 whole
  | .trip cause => [cause] ++ leBytes 9 0

/-- Whether a last control kind has a detail: a GO has none (R101). -/
def hasDetail : ControlSeen → Bool
  | .go => false
  | .hold _ | .resume .. | .trip _ => true

/-- The last control kind, age and detail of an entry, each with its presence byte (R98, R196). -/
def lastControlBytes : Option LastControl → List Byte
  | none => leOptional 1 none ++ leOptional 2 none ++ (0 :: leBytes 10 0)
  | some l => leOptional 1 (some l.seen.code) ++ leOptional 2 (some l.age) ++ (boolByte (hasDetail l.seen) :: controlDetail l.seen)

/-- The fields of a peer entry in the order of R98 (R98, R102, R196; log entry 13). -/
def PeerEntry.body (e : PeerEntry) : List Byte :=
  [codeByte e.state.code, codeByte e.group] ++ leOptional 2 (e.schedule.map (·.fingerprint.toNat)) ++
    leOptional 2 (e.schedule.map (·.pass)) ++ leOptional 4 (e.schedule.map (·.whole)) ++ leOptional 2 (e.schedule.map (·.fraction)) ++
    [boolByte e.holdFlag] ++ leBytes 2 e.reasons.toNat ++ leSigned 3 e.share ++ leBytes 2 e.age ++
    [boolByte (!e.fresh), boolByte e.runMark] ++ lastControlBytes e.lastControl

/-- The own record in the order of R102 (R102, R196; log entry 13). DEDUCED: a presence byte stands before the fields that
may be absent in a configured station, and before no other (log entry 31). -/
def Station.ownRecordBody (st : Station) (cfg : ConfigRecord) : List Byte :=
  [codeByte (own cfg).val] ++ leSigned 3 st.peers.ownShare ++ leOptional 1 st.peers.beatCounter ++
    leOptional 1 (st.peers.lastTrim.map (·.size)) ++ leOptionalSigned 8 (st.peers.lastTrim.map (·.median)) ++
    leOptionalSigned 2 (st.peers.lastTrim.map (·.trim)) ++ leOptional 2 (st.engine.regs.map (·.increment)) ++
    leOptionalSigned 3 st.peers.groupSum ++ [boolByte st.ctl.clash]

/-- PEER-READ is taken: answered in every state; it changes nothing (R102). -/
def Station.takePeerRead (st : Station) (kind : Byte) (number : BitVec 8) : Station :=
  if h : number.toNat < 24 then
    let k : StationNo := ⟨number.toNat, h⟩
    let entry := match st.peer k with
      | none => st.answer kind .ok [0]
      | some e => st.answer kind .ok (1 :: e.body)
    match st.config with
    | none => entry
    | some cfg => if k = own cfg then st.answer kind .ok (st.ownRecordBody cfg) else entry
  else st.answer kind .badArg []

end Sys2Proof.Machine
end

