-- ==== Sys2Proof/Machine/HostFrames.lean ====
section
/-! DEFINITION. Host frames (R196): the kind and the payload of every request, the reading of a frame by the checks of
R176, and the taking of a request by the block that owns it (9.4). -/

namespace Sys2Proof.Machine

/-! ### Requests as frames (R196, R197) -/

/-- The kind byte of a request: numbered in the order of the table of 9.4 (R196). -/
def kindOf : Request → Byte
  | .identify => 0x01#8 | .configure _ => 0x02#8 | .segmentOpen .. => 0x03#8 | .segmentData .. => 0x04#8
  | .segmentDiscard _ => 0x05#8 | .segmentInfo _ => 0x06#8 | .playlistAppend .. => 0x07#8 | .playlistClear => 0x08#8
  | .playlistRead _ => 0x09#8 | .schedulePasses _ => 0x0A#8 | .arm => 0x0B#8 | .disarm => 0x0C#8 | .start _ => 0x0D#8
  | .hold => 0x0E#8 | .resume => 0x0F#8 | .acknowledge _ => 0x10#8 | .abort => 0x11#8 | .clearTrip => 0x12#8 | .setLevel _ => 0x13#8
  | .sideSend _ => 0x14#8 | .sideRead => 0x15#8 | .status => 0x16#8 | .peerRead _ => 0x17#8 | .eventsRead => 0x18#8
  | .eventsClear _ => 0x19#8 | .reportRate _ => 0x1A#8 | .stationReset => 0x1B#8

/-- The kind byte of STATION-RESET (R196). -/
def resetKind : Byte := 0x1B#8

/-- The kind byte of a REPORT frame (R196). -/
def reportKind : Byte := 0x40#8

/-- The 60 bytes of the CONFIGURE record (R197). -/
def recordBytes (r : ConfigRecord) : List Byte :=
  [r.stationNumber, r.group, r.role] ++ leBytes 3 r.expectedPeers.toNat ++ leBytes 2 r.sampleRate.toNat ++ [r.beatInterval] ++
    leBytes 2 r.fadeLength.toNat ++ leBytes 2 r.levelStep.toNat ++ leBytes 2 r.initialLevel.toNat ++ leBytes 2 r.commandMin.toNat ++
    leBytes 2 r.commandMax.toNat ++ leBytes 2 r.holdOffset.toNat ++ leBytes 2 r.rateLimit.toNat ++ [r.slipLimit] ++
    leBytes 2 r.forceMin.toNat ++ leBytes 2 r.forceMax.toNat ++ leBytes 2 r.dispMin.toNat ++ leBytes 2 r.dispMax.toNat ++
    leBytes 2 r.trackingLimit.toNat ++ [r.trackingCount] ++ leBytes 2 r.weight.toNat ++ leBytes 4 r.groupLimit.toNat ++
    [r.tripMask, r.holdMask, r.refreshInterval, r.gainEnable] ++ leBytes 2 r.threshold.toNat ++ leBytes 2 r.hysteresis.toNat ++
    leBytes 4 r.lowWord.toNat ++ leBytes 4 r.highWord.toNat ++ leBytes 2 r.attentionMask.toNat ++ [r.reportInterval]

/-- The record read from a payload of 60 bytes (R197). -/
def recordOf (p : List Byte) : ConfigRecord :=
  { stationNumber := BitVec.ofNat 8 (fieldAt p 0 1), group := BitVec.ofNat 8 (fieldAt p 1 1), role := BitVec.ofNat 8 (fieldAt p 2 1),
    expectedPeers := BitVec.ofNat 24 (fieldAt p 3 3), sampleRate := BitVec.ofNat 16 (fieldAt p 6 2),
    beatInterval := BitVec.ofNat 8 (fieldAt p 8 1), fadeLength := BitVec.ofNat 16 (fieldAt p 9 2),
    levelStep := BitVec.ofNat 16 (fieldAt p 11 2), initialLevel := BitVec.ofNat 16 (fieldAt p 13 2),
    commandMin := BitVec.ofNat 16 (fieldAt p 15 2), commandMax := BitVec.ofNat 16 (fieldAt p 17 2),
    holdOffset := BitVec.ofNat 16 (fieldAt p 19 2), rateLimit := BitVec.ofNat 16 (fieldAt p 21 2),
    slipLimit := BitVec.ofNat 8 (fieldAt p 23 1), forceMin := BitVec.ofNat 16 (fieldAt p 24 2),
    forceMax := BitVec.ofNat 16 (fieldAt p 26 2), dispMin := BitVec.ofNat 16 (fieldAt p 28 2),
    dispMax := BitVec.ofNat 16 (fieldAt p 30 2), trackingLimit := BitVec.ofNat 16 (fieldAt p 32 2),
    trackingCount := BitVec.ofNat 8 (fieldAt p 34 1), weight := BitVec.ofNat 16 (fieldAt p 35 2),
    groupLimit := BitVec.ofNat 32 (fieldAt p 37 4), tripMask := BitVec.ofNat 8 (fieldAt p 41 1),
    holdMask := BitVec.ofNat 8 (fieldAt p 42 1), refreshInterval := BitVec.ofNat 8 (fieldAt p 43 1),
    gainEnable := BitVec.ofNat 8 (fieldAt p 44 1), threshold := BitVec.ofNat 16 (fieldAt p 45 2),
    hysteresis := BitVec.ofNat 16 (fieldAt p 47 2), lowWord := BitVec.ofNat 32 (fieldAt p 49 4),
    highWord := BitVec.ofNat 32 (fieldAt p 53 4), attentionMask := BitVec.ofNat 16 (fieldAt p 57 2),
    reportInterval := BitVec.ofNat 8 (fieldAt p 59 1) }

/-- The payload of a request (R196). -/
def payloadOf : Request → List Byte
  | .configure r => recordBytes r
  | .segmentOpen id length expected => [id] ++ leBytes 4 length.toNat ++ leBytes 2 expected.toNat
  | .segmentData id part samples => [id] ++ leBytes 4 part.toNat ++ samples.flatMap sampleBytes
  | .segmentDiscard id => [id]
  | .segmentInfo id => [id]
  | .playlistAppend id repeats wait => [id] ++ leBytes 2 repeats.toNat ++ [wait]
  | .playlistRead index => [index]
  | .schedulePasses p => leBytes 2 p.toNat
  | .start none => []
  | .start (some (pass, whole)) => leBytes 4 pass.toNat ++ leBytes 6 whole.toNat
  | .acknowledge reasons => leBytes 2 reasons.toNat
  | .setLevel target => leBytes 2 target.toNat
  | .sideSend word => leBytes 4 word.toNat
  | .peerRead number => [number]
  | .eventsClear events => leBytes 2 events.toNat
  | .reportRate n => [n]
  | .identify | .playlistClear | .arm | .disarm | .hold | .resume | .abort | .clearTrip | .sideRead | .status | .eventsRead
  | .stationReset => []

/-- The CRC that a host frame carries: over its length, kind and payload (R196, R201). -/
def hostCrc (kind : Byte) (payload : List Byte) : BitVec 16 :=
  crc16 crcInitHost (BitVec.ofNat 8 payload.length :: kind :: payload)

/-- A request as the frame that carries it (R196). -/
def frameOf (r : Request) : HostFrame := .whole (kindOf r) (payloadOf r) (hostCrc (kindOf r) (payloadOf r))

/-- A completed frame as the bytes that spell it on the line: start byte, length, kind, payload and CRC, low byte first; of an
over-long frame, any length above 112 and the kind (R173, R196). -/
def wireBytes : HostFrame → List Byte
  | .overLong kind => [0xA5#8, 0xFF#8, kind]
  | .whole kind payload crc => [0xA5#8, BitVec.ofNat 8 payload.length, kind] ++ payload ++ leBytes 2 crc.toNat

/-- The frame that carries a reply: the result code, then the fields (R177, R196). -/
def replyFrame (r : HostReply) : HostFrame :=
  let payload := codeByte r.code.code :: r.body
  .whole r.kind payload (hostCrc r.kind payload)

/-- The samples read from bytes, two each, low byte first (R195, R196). -/
def samplesOf : List Byte → List Sample
  | low :: high :: rest => BitVec.ofNat 16 (ofLe [low, high]) :: samplesOf rest
  | _ => []

/-- Whether a payload size is one that a kind's layout allows (R196); none for a kind that names no request (R176). -/
def sizeAllowed (kind : Byte) (n : Nat) : Option Bool :=
  match kind.toNat with
  | 0x01 | 0x08 | 0x0B | 0x0C | 0x0E | 0x0F | 0x11 | 0x12 | 0x15 | 0x16 | 0x18 | 0x1B => some (n == 0)
  | 0x02 => some (n == 60)
  | 0x03 => some (n == 7)
  | 0x04 => some (decide (5 ≤ n ∧ n ≤ 111 ∧ n % 2 = 1))
  | 0x05 | 0x06 | 0x09 | 0x17 | 0x1A => some (n == 1)
  | 0x07 | 0x14 => some (n == 4)
  | 0x0A | 0x10 | 0x13 | 0x19 => some (n == 2)
  | 0x0D => some (n == 0 || n == 10)
  | _ => none

/-- The request that a payload of an allowed size spells under a kind (R196). -/
def requestOf (kind : Byte) (p : List Byte) : Request :=
  match kind.toNat with
  | 0x01 => .identify
  | 0x02 => .configure (recordOf p)
  | 0x03 => .segmentOpen (BitVec.ofNat 8 (fieldAt p 0 1)) (BitVec.ofNat 32 (fieldAt p 1 4)) (BitVec.ofNat 16 (fieldAt p 5 2))
  | 0x04 => .segmentData (BitVec.ofNat 8 (fieldAt p 0 1)) (BitVec.ofNat 32 (fieldAt p 1 4)) (samplesOf (p.drop 5))
  | 0x05 => .segmentDiscard (BitVec.ofNat 8 (fieldAt p 0 1))
  | 0x06 => .segmentInfo (BitVec.ofNat 8 (fieldAt p 0 1))
  | 0x07 => .playlistAppend (BitVec.ofNat 8 (fieldAt p 0 1)) (BitVec.ofNat 16 (fieldAt p 1 2)) (BitVec.ofNat 8 (fieldAt p 3 1))
  | 0x08 => .playlistClear
  | 0x09 => .playlistRead (BitVec.ofNat 8 (fieldAt p 0 1))
  | 0x0A => .schedulePasses (BitVec.ofNat 16 (fieldAt p 0 2))
  | 0x0B => .arm
  | 0x0C => .disarm
  | 0x0D => .start (if p.length = 0 then none else some (BitVec.ofNat 32 (fieldAt p 0 4), BitVec.ofNat 48 (fieldAt p 4 6)))
  | 0x0E => .hold
  | 0x0F => .resume
  | 0x10 => .acknowledge (BitVec.ofNat 16 (fieldAt p 0 2))
  | 0x11 => .abort
  | 0x12 => .clearTrip
  | 0x13 => .setLevel (BitVec.ofNat 16 (fieldAt p 0 2))
  | 0x14 => .sideSend (BitVec.ofNat 32 (fieldAt p 0 4))
  | 0x15 => .sideRead
  | 0x16 => .status
  | 0x17 => .peerRead (BitVec.ofNat 8 (fieldAt p 0 1))
  | 0x18 => .eventsRead
  | 0x19 => .eventsClear (BitVec.ofNat 16 (fieldAt p 0 2))
  | 0x1A => .reportRate (BitVec.ofNat 8 (fieldAt p 0 1))
  | _ => .stationReset

/-! ### The checks of a served frame (R176) -/

/-- What the four checks of R176 make of a frame: the kind to answer under with the refusing code and the fields after it,
or the request it carries. A CONFIGURE refused at check 4 carries field index 0 (R177, R188). -/
inductive Verdict where
  | refused (kind : Byte) (code : ResultCode) (body : List Byte)
  | request (r : Request)
  deriving DecidableEq, Repr

/-- The checks of R176 in order. -/
def verdict : HostFrame → Verdict
  | .overLong kind => .refused kind .length []
  | .whole kind payload crc =>
    if crc ≠ hostCrc kind payload then .refused kind .badCheck []
    else match sizeAllowed kind payload.length with
      | none => .refused kind .unknown []
      | some false => .refused kind .badArg (if kind = 0x02#8 then [0] else [])
      | some true => .request (requestOf kind payload)

/-! ### The request set (9.4) -/

/-- A request of the Station Controller, which is refused BAD-STATE in UNCONFIGURED, where no configuration exists (9.4). -/
def Station.runRequest (st : Station) (kind : Byte) (f : ConfigRecord → Station) : Station :=
  match st.config with
  | none => st.answer kind .badState []
  | some cfg => f cfg

/-- A request is taken whole by the block that owns it, and answered (9.4, R176). -/
def Station.takeRequest (st : Station) (r : Request) : Station :=
  match r with
  | .identify => st.takeIdentify (kindOf r)
  | .configure record => st.takeConfigure (kindOf r) record
  | .segmentOpen id length expected => st.takeSegmentOpen (kindOf r) id length expected
  | .segmentData id part samples => st.takeSegmentData (kindOf r) id part samples
  | .segmentDiscard id => st.takeSegmentDiscard (kindOf r) id
  | .segmentInfo id => st.takeSegmentInfo (kindOf r) id
  | .playlistAppend id repeats wait => st.takePlaylistAppend (kindOf r) id repeats wait
  | .playlistClear => st.takePlaylistClear (kindOf r)
  | .playlistRead index => st.takePlaylistRead (kindOf r) index
  | .schedulePasses passes => st.takeSchedulePasses (kindOf r) passes
  | .arm => st.runRequest (kindOf r) fun cfg => st.takeArm cfg (kindOf r)
  | .disarm => st.runRequest (kindOf r) fun cfg => st.takeDisarm cfg (kindOf r)
  | .start position => st.runRequest (kindOf r) fun cfg => st.takeStart cfg (kindOf r) position
  | .hold => st.runRequest (kindOf r) fun cfg => st.takeHold cfg (kindOf r)
  | .resume => st.runRequest (kindOf r) fun cfg => st.takeResume cfg (kindOf r)
  | .acknowledge reasons => st.takeAcknowledge (kindOf r) reasons
  | .abort => st.runRequest (kindOf r) fun cfg => st.takeAbort cfg (kindOf r)
  | .clearTrip => st.runRequest (kindOf r) fun cfg => st.takeClearTrip cfg (kindOf r)
  | .setLevel target => st.takeSetLevel (kindOf r) target
  | .sideSend word => st.takeSideSend (kindOf r) word
  | .sideRead => st.takeSideRead (kindOf r)
  | .status => st.takeStatus (kindOf r)
  | .peerRead number => st.takePeerRead (kindOf r) number
  | .eventsRead => st.takeEventsRead (kindOf r)
  | .eventsClear events => st.takeEventsClear (kindOf r) events
  | .reportRate n => st.takeReportRate (kindOf r) n
  | .stationReset => st.answer (kindOf r) .ok []

end Sys2Proof.Machine
end

