-- ==== Sys2Proof/Machine/HostPort.lean ====
section
/-! DEFINITION. Chapter 9: the receiver, the receive buffers and their service, the transmitter and its three sources, the
reset that a STATION-RESET reply brings, and the host port's two timers. -/

namespace Sys2Proof.Machine

/-! ### The reset to come (R179) -/

/-- Whether a frame is the reply OK to a STATION-RESET (R179). -/
def isResetOk : Option HostReply → Bool
  | none => false
  | some r => r.kind == resetKind && r.code == .ok

/-- Whether a STATION-RESET has been served and its reset has not yet taken effect: until then no request is served
(R179; log entry 11). -/
def HostPort.resetting (port : HostPort) : Bool := isResetOk port.reply || isResetOk port.sending

/-! ### The transmitter (R178, R186) -/

/-- A BUSY reply for a kind of the busy queue (R177, R178). -/
def busyReply (kind : Byte) : HostReply := { kind := kind, code := .busy, body := [] }

/-- A REPORT frame with the STATUS picture of this moment (R186). -/
def Station.report (st : Station) : HostReply := { kind := reportKind, code := .ok, body := st.statusBody }

/-- The transmitter, when IDLE, takes one frame from the first source that has one: the reply place, the head of the busy
queue, a pending report (R178). -/
def Station.transmitterTake (st : Station) : Station :=
  match st.port.sending with
  | some _ => st
  | none =>
    match st.port.reply, st.port.busy with
    | some r, _ => { st with port := { st.port with reply := none, sending := some r } }
    | none, kind :: rest => { st with port := { st.port with busy := rest, sending := some (busyReply kind) } }
    | none, [] =>
      if st.port.reportPending then { st with port := { st.port with reportPending := false, sending := some st.report } } else st

/-! ### Buffers and service (R175, R176) -/

/-- The kind byte of a completed frame, as received (R175). -/
def kindReceived : HostFrame → Byte
  | .overLong kind => kind
  | .whole kind _ _ => kind

/-- The most frames the receive buffers hold (R171). -/
def bufferCapacity : Nat := 2

/-- The most kinds the busy queue holds (R171). -/
def busyCapacity : Nat := 8

/-- A completed frame joins the receive buffers, or is dropped with its kind put on the busy queue, or is dropped and
counted (R175). -/
def Station.joinBuffers (st : Station) (f : HostFrame) : Station :=
  if st.port.buffers.length < bufferCapacity then
    { st with port := { st.port with buffers := st.port.buffers ++ [f] } }
  else if st.port.busy.length < busyCapacity then
    { st with port := { st.port with busy := st.port.busy ++ [kindReceived f] } }
  else { st with port := { st.port with overrun := min 65535 (st.port.overrun + 1) } }

/-- A frame is served: refused by the first check of R176 that fails, or dispatched (R176). -/
def Station.serve (st : Station) (f : HostFrame) : Station :=
  match verdict f with
  | .refused kind code body => st.answer kind code body
  | .request r => st.takeRequest r

/-- The frame at the head of the receive buffers is taken out and served when the reply place is empty and no reset is to
come (R176, R179). -/
def Station.serveWaiting (st : Station) : Station :=
  if st.port.reply.isSome || st.port.resetting then st
  else match st.port.buffers with
    | [] => st
    | f :: rest => ({ st with port := { st.port with buffers := rest } } : Station).serve f

/-- What the port does by itself after a frame has joined the buffers or left the line: the transmitter takes its next
frame, and then every buffered frame is served for whose reply there is room; there are at most two (R171, R176, R178;
log entry 10). -/
def Station.settlePort (st : Station) : Station := (st.transmitterTake.serveWaiting).serveWaiting

/-- A frame completes at the receiver (R175, R176). -/
def Station.frameCompletes (st : Station) (f : HostFrame) : Station := (st.joinBuffers f).settlePort

/-- Whether a request that arrives now is served at once: nothing waits in the buffers, the reply place is empty, and no
reset is to come (R176, R179). -/
def HostPort.ready (port : HostPort) : Bool := port.reply.isNone && port.buffers.isEmpty && !port.resetting

/-- A host request arrives at a running station: it is served at once, or the frame that carries it is buffered or dropped
as R175 gives (R175, R176; log entry 10). -/
def Station.hostRequest (st : Station) (r : Request) : Station :=
  if st.running then
    if st.port.ready then st.takeRequest r else st.frameCompletes (frameOf r)
  else st

/-! ### The receiver (R172, R173) -/

/-- The start byte of a host frame (R172, R196). -/
def startByte : Byte := 0xA5#8

/-- The largest payload (R172). -/
def payloadMax : Nat := 112

/-- The frame that collected bytes complete, if they complete one: after the kind byte for a length above 112, and
otherwise when it holds 5 + length bytes (R172, R173). -/
def completedFrame : List Byte → Option HostFrame
  | _ :: length :: kind :: rest =>
    if payloadMax < length.toNat then some (.overLong kind)
    else if rest.length = length.toNat + 2 then
      some (.whole kind (rest.take length.toNat) (BitVec.ofNat 16 (ofLe (rest.drop length.toNat))))
    else none
  | _ => none

/-- The receiver takes a byte while HUNTING or COLLECTING; a frame it completes goes to the receive buffers (R172, R173). -/
def Station.takeHostByte (st : Station) (b : Byte) : Station :=
  match st.port.receiver with
  | .hunting =>
    if b = startByte then
      { st with port := { st.port with receiver := .collecting [b], partialTimer := some 0, byteSeen := true } }
    else { st with port := { st.port with byteSeen := true } }
  | .collecting bytes =>
    match completedFrame (bytes ++ [b]) with
    | none =>
      { st with port := { st.port with receiver := .collecting (bytes ++ [b]), partialTimer := some 0, byteSeen := true } }
    | some f =>
      ({ st with port := { st.port with receiver := .hunting, partialTimer := none, byteSeen := true } } : Station).frameCompletes f

/-! ### The partial-frame timer (R174) -/

/-- The partial-frame timer's bound in updates (R174). -/
def partialLimit : Nat := 64

/-- Whether the partial-frame timer reaches its bound at the coming update: a frame is being collected, no byte has come
since the last update, and the timer stands one below (R174). -/
def HostPort.partialExpires (port : HostPort) : Bool :=
  match port.receiver, port.partialTimer with
  | .collecting _, some n => !port.byteSeen && decide (partialLimit ≤ n + 1)
  | _, _ => false

/-- The frame collected so far is discarded, the receiver returns to HUNTING, and the timer becomes absent (R174). -/
def Station.discardPartial (st : Station) : Station :=
  { st with port := { st.port with receiver := .hunting, partialTimer := none } }

/-- The partial-frame timer at an update: it increases unless a byte has come since the last update, and at its bound the
frame is discarded (R174). -/
def Station.partialTick (st : Station) : Station :=
  let st1 : Station :=
    if st.port.partialExpires then st.discardPartial
    else if st.port.byteSeen then st
    else { st with port := { st.port with partialTimer := st.port.partialTimer.map (· + 1) } }
  { st1 with port := { st1.port with byteSeen := false } }

/-! ### The report timer (R185) -/

/-- Whether the report timer would reach n × 64 at the coming update; with n = 0 no report becomes due (R185). -/
def HostPort.reportComesDue (port : HostPort) : Bool :=
  match port.reportInterval, port.reportTimer with
  | some n, some t => n != 0 && decide (n * 64 ≤ t + 1)
  | _, _ => false

/-- A report becomes due: the timer becomes 0, report pending is set, and an IDLE transmitter takes it (R178, R185). -/
def Station.reportFalls (st : Station) : Station :=
  ({ st with port := { st.port with reportTimer := some 0, reportPending := true } } : Station).transmitterTake

/-- The report timer at an update in a configured state: it increases with n ≠ 0 and stands with n = 0. A count that
REPORT_DUE has already taken for this update is not taken again (R185; log entry 8). -/
def Station.reportTick (st : Station) : Station :=
  if st.port.reportTaken then { st with port := { st.port with reportTaken := false } }
  else if st.port.reportComesDue then st.reportFalls
  else if st.port.reportInterval = some 0 then st
  else { st with port := { st.port with reportTimer := st.port.reportTimer.map (· + 1) } }

/-! ### A frame sent (R178, R179) -/

/-- The transmitter has sent its frame's last byte: the reset of a STATION-RESET takes effect if the frame was its OK;
otherwise the transmitter becomes IDLE and the port goes on (R178, R179, R194). -/
def Station.frameSent (st : Station) : Station :=
  match st.port.sending with
  | none => st
  | some r =>
    if isResetOk (some r) then st.softReset
    else ({ st with port := { st.port with sending := none } } : Station).settlePort

end Sys2Proof.Machine
end

