-- ==== Sys2Proof/Machine/HostCommands.lean ====
section
/-! DEFINITION. The meanings of the commands of the host port: its 27 requests, a refused frame, a byte, the transmitter's
end of frame with the reset that it may bring, and the two timers' ends. A request arrives as R175 and R176 give
(log entry 10), and every command here completes. -/

namespace Sys2Proof.Machine

/-! ### The requests of 9.4 -/

/-- IDENTIFY: the part's identity, the state, the start kind and the records held; it changes nothing (R192). -/
def execIdentify (s : State) : Host.Outcome State Fault Refusal :=
  s.act fun st => st.hostRequest .identify

/-- CONFIGURE: checked field by field in UNCONFIGURED, and taken whole (R71, R187 to R189). -/
def execConfigure (record : ConfigRecord) (s : State) : Host.Outcome State Fault Refusal :=
  s.act fun st => st.hostRequest (.configure record)

/-- SEGMENT-OPEN (R6, R7). -/
def execSegmentOpen (id : BitVec 8) (length : BitVec 32) (expected : BitVec 16) (s : State) : Host.Outcome State Fault Refusal :=
  s.act fun st => st.hostRequest (.segmentOpen id length expected)

/-- SEGMENT-DATA (R8 to R11). -/
def execSegmentData (id : BitVec 8) (part : BitVec 32) (samples : List Sample) (s : State) : Host.Outcome State Fault Refusal :=
  s.act fun st => st.hostRequest (.segmentData id part samples)

/-- SEGMENT-DISCARD (R12, R13). -/
def execSegmentDiscard (id : BitVec 8) (s : State) : Host.Outcome State Fault Refusal :=
  s.act fun st => st.hostRequest (.segmentDiscard id)

/-- SEGMENT-INFO (R14). -/
def execSegmentInfo (id : BitVec 8) (s : State) : Host.Outcome State Fault Refusal :=
  s.act fun st => st.hostRequest (.segmentInfo id)

/-- PLAYLIST-APPEND (R21). -/
def execPlaylistAppend (id : BitVec 8) (repeats : BitVec 16) (wait : BitVec 8) (s : State) : Host.Outcome State Fault Refusal :=
  s.act fun st => st.hostRequest (.playlistAppend id repeats wait)

/-- PLAYLIST-CLEAR (R22). -/
def execPlaylistClear (s : State) : Host.Outcome State Fault Refusal :=
  s.act fun st => st.hostRequest .playlistClear

/-- PLAYLIST-READ (R23). -/
def execPlaylistRead (index : BitVec 8) (s : State) : Host.Outcome State Fault Refusal :=
  s.act fun st => st.hostRequest (.playlistRead index)

/-- SCHEDULE-PASSES (R24). -/
def execSchedulePasses (passes : BitVec 16) (s : State) : Host.Outcome State Fault Refusal :=
  s.act fun st => st.hostRequest (.schedulePasses passes)

/-- ARM (R72, R73). -/
def execArm (s : State) : Host.Outcome State Fault Refusal :=
  s.act fun st => st.hostRequest .arm

/-- DISARM (R74). -/
def execDisarm (s : State) : Host.Outcome State Fault Refusal :=
  s.act fun st => st.hostRequest .disarm

/-- START (R75). -/
def execStart (position : Option (BitVec 32 × BitVec 48)) (s : State) : Host.Outcome State Fault Refusal :=
  s.act fun st => st.hostRequest (.start position)

/-- HOLD (R69). -/
def execHoldRequest (s : State) : Host.Outcome State Fault Refusal :=
  s.act fun st => st.hostRequest .hold

/-- RESUME (R85). -/
def execResumeRequest (s : State) : Host.Outcome State Fault Refusal :=
  s.act fun st => st.hostRequest .resume

/-- ACKNOWLEDGE (R68). -/
def execAcknowledge (reasons : BitVec 16) (s : State) : Host.Outcome State Fault Refusal :=
  s.act fun st => st.hostRequest (.acknowledge reasons)

/-- ABORT (R94). -/
def execAbort (s : State) : Host.Outcome State Fault Refusal :=
  s.act fun st => st.hostRequest .abort

/-- CLEAR-TRIP (R95). -/
def execClearTrip (s : State) : Host.Outcome State Fault Refusal :=
  s.act fun st => st.hostRequest .clearTrip

/-- SET-LEVEL (R46). -/
def execSetLevel (target : BitVec 16) (s : State) : Host.Outcome State Fault Refusal :=
  s.act fun st => st.hostRequest (.setLevel target)

/-- SIDE-SEND (R145). -/
def execSideSend (word : BitVec 32) (s : State) : Host.Outcome State Fault Refusal :=
  s.act fun st => st.hostRequest (.sideSend word)

/-- SIDE-READ (R149). -/
def execSideRead (s : State) : Host.Outcome State Fault Refusal :=
  s.act fun st => st.hostRequest .sideRead

/-- STATUS (R180). -/
def execStatus (s : State) : Host.Outcome State Fault Refusal :=
  s.act fun st => st.hostRequest .status

/-- PEER-READ (R102). -/
def execPeerRead (number : BitVec 8) (s : State) : Host.Outcome State Fault Refusal :=
  s.act fun st => st.hostRequest (.peerRead number)

/-- EVENTS-READ (R182). -/
def execEventsRead (s : State) : Host.Outcome State Fault Refusal :=
  s.act fun st => st.hostRequest .eventsRead

/-- EVENTS-CLEAR (R183). -/
def execEventsClear (events : BitVec 16) (s : State) : Host.Outcome State Fault Refusal :=
  s.act fun st => st.hostRequest (.eventsClear events)

/-- REPORT-RATE (R185). -/
def execReportRate (n : BitVec 8) (s : State) : Host.Outcome State Fault Refusal :=
  s.act fun st => st.hostRequest (.reportRate n)

/-- STATION-RESET: its reply OK is placed, and the reset waits for that reply to have been sent (R179). -/
def execStationReset (s : State) : Host.Outcome State Fault Refusal :=
  s.act fun st => st.hostRequest .stationReset

/-! ### The other commands of the host port -/

/-- STATION_RESET_EFFECT: the last byte of the STATION-RESET reply has been sent, and every block takes its STATION-RESET
values (R179, R194); it has no effect while that reply is not the frame being sent (log entry 25). -/
def execStationResetEffect (s : State) : Host.Outcome State Fault Refusal :=
  s.act fun st => if st.running && isResetOk st.port.sending then st.softReset else st

/-- HOST_FRAME_REFUSED: a completed frame that fails a check of R176 is answered with that result code alone when it is
served (R173, R175 to R177). -/
def execHostFrameRefused (frame : HostFrame) (s : State) : Host.Outcome State Fault Refusal :=
  s.act fun st => if st.running then st.frameCompletes frame else st

/-- HOST_BYTE: a byte received on the host port (R172, R173). -/
def execHostByte (b : Byte) (s : State) : Host.Outcome State Fault Refusal :=
  s.act fun st => if st.running then st.takeHostByte b else st

/-- PARTIAL_FRAME_TIMEOUT: the partial-frame timer reaches 64 and the frame being collected is discarded (R174); it has no
effect while the timer is not at that point (log entry 8). -/
def execPartialFrameTimeout (s : State) : Host.Outcome State Fault Refusal :=
  s.act fun st => if st.running && st.port.partialExpires then st.discardPartial else st

/-- TRANSMITTER_FRAME_SENT: the transmitter finishes its frame and takes the next (R178). -/
def execTransmitterFrameSent (s : State) : Host.Outcome State Fault Refusal :=
  s.act fun st => if st.running then st.frameSent else st

/-- REPORT_DUE: the report timer reaches n × 64, returns to 0 and report pending is set (R185); it has no effect while the
timer is not at that point (log entry 8). -/
def execReportDue (s : State) : Host.Outcome State Fault Refusal :=
  s.act fun st => st.whenConfigured fun _ st1 =>
    if st1.port.reportComesDue && !st1.port.reportTaken then
      ({ st1 with port := { st1.port with reportTaken := true } } : Station).reportFalls
    else st1

end Sys2Proof.Machine
end

