-- ==== Sys2Proof/Machine/LineCommands.lean ====
section
/-! DEFINITION. The meanings of the commands of the station's lines: ESTOP, the supply and RESET. -/

namespace Sys2Proof.Machine

/-- ESTOP_ACTIVE: the line becomes active; a configured station that has not taken it as active takes it (R166). -/
def execEstopActive (s : State) : Host.Outcome State Fault Refusal :=
  s.act fun st =>
    ({ st with estopLine := true } : Station).whenConfigured fun cfg st1 =>
      if st1.sup.estopTaken = some true then st1 else st1.estopRises cfg

/-- ESTOP_INACTIVE: the line becomes inactive; a configured station records the level, with no event and no report
(R166). -/
def execEstopInactive (s : State) : Host.Outcome State Fault Refusal :=
  s.act fun st => ({ st with estopLine := false } : Station).whenConfigured fun _ st1 => st1.estopFalls

/-- POWER_ON: the supply is established, and every block starts at its power-on values (R193; log entry 22). -/
def execPowerOn (s : State) : Host.Outcome State Fault Refusal :=
  s.act fun st => ({ st with power := true } : Station).hardReset

/-- RESET_LINE_ACTIVE: RESET becomes active, and every block stands at its reset values (R193). -/
def execResetLineActive (s : State) : Host.Outcome State Fault Refusal :=
  s.act fun st => ({ st with resetLine := true } : Station).hardReset

/-- RESET_LINE_INACTIVE: RESET becomes inactive, and the station starts as at power-on (R193); a RESET that is inactive
already does not become so. -/
def execResetLineInactive (s : State) : Host.Outcome State Fault Refusal :=
  s.act fun st => if st.resetLine then ({ st with resetLine := false } : Station).hardReset else st

/-- POWER_OFF: the supply is lost, and the station stops until power-on (R193). DESIGN CHOICE: while the supply is off every
block stands at its reset values, PERMIT and ATTENTION inactive (log entry 33); the store keeps its contents (log entry
4). -/
def execPowerOff (s : State) : Host.Outcome State Fault Refusal :=
  s.act fun st => ({ st with power := false } : Station).hardReset

end Sys2Proof.Machine
end

