-- ==== Sys2Proof/Machine/LinkCommands.lean ====
section
/-! DEFINITION. The meanings of the commands of the rig link: the idle point, the outcomes of an attempt, a dropped frame,
and the five frames. Outside a configured state nothing is heard or sent (R137). -/

namespace Sys2Proof.Machine

/-- What an outcome of an attempt does, while an attempt is under way; without one it has no effect (R130). -/
def Station.withAttempt (st : Station) (f : Attempt → Station) : Station :=
  match st.link.attempt with
  | none => st
  | some a => f a

/-- IDLE_POINT: the received frame still to be taken is taken, and an attempt begins if a slot is filled (R129). -/
def execIdlePoint (s : State) : Host.Outcome State Fault Refusal :=
  s.act fun st => st.whenConfigured fun cfg st1 => st1.idlePoint cfg

/-- ARBITRATION_LOST: the attempt stops in the key field, and every slot keeps its frame for a later idle point (R124,
R130). -/
def execArbitrationLost (s : State) : Host.Outcome State Fault Refusal :=
  s.act fun st => st.whenConfigured fun _ st1 => st1.withAttempt fun _ => st1.endAttempt

/-- ATTEMPT_ABORTED: the attempt stops after the key field and the consecutive abort count increases, or meets its limit
(R131, R132). -/
def execAttemptAborted (s : State) : Host.Outcome State Fault Refusal :=
  s.act fun st => st.whenConfigured fun cfg st1 => st1.withAttempt fun _ => st1.abortAttempt cfg

/-- CONSECUTIVE_ABORT_LIMIT: the abort that would bring the count to 16 (R132); it has no effect while the count is not at
15 (log entry 25). -/
def execConsecutiveAbortLimit (s : State) : Host.Outcome State Fault Refusal :=
  s.act fun st => st.whenConfigured fun cfg st1 => st1.withAttempt fun _ =>
    if 16 ≤ st1.link.aborts + 1 then st1.stopAborted.abortLimit cfg else st1

/-- ATTEMPT_COMPLETED: the frame has been sent whole (R130 to R132, R136). -/
def execAttemptCompleted (s : State) : Host.Outcome State Fault Refusal :=
  s.act fun st => st.whenConfigured fun _ st1 => st1.withAttempt fun a => st1.completeAttempt a

/-- FRAME_DROPPED: the bytes carried from a frame's start until the line fell idle fail the checks of R133; the frame is
dropped and counted (R133, R134), unless it is the cut-short end of the station's own abort (R131; log entry 35). Bytes that
pass are the frame they spell, not sent by this station (log entry 21). -/
def execFrameDropped (frame : DroppedFrame) (s : State) : Host.Outcome State Fault Refusal :=
  s.act fun st => st.whenConfigured fun cfg st1 =>
    match readFrame frame.bytes with
    | none => st1.badFrameEnds frame.otherDriving
    | some f => st1.receive cfg { number := f.sender, bySelf := false } f.body

/-- BEAT_FRAME: a valid BEAT is received (R99, R109, R110, R120, R135). -/
def execBeatFrame (sender : Sender) (fields : BeatFields) (s : State) : Host.Outcome State Fault Refusal :=
  s.act fun st => st.whenConfigured fun cfg st1 => st1.receive cfg sender (.beat fields)

/-- GO_FRAME: a valid GO is received (R76, R77, R101, R120, R135). -/
def execGoFrame (sender : Sender) (fingerprint : BitVec 16) (pass : BitVec 32) (whole : BitVec 48) (s : State) :
    Host.Outcome State Fault Refusal :=
  s.act fun st => st.whenConfigured fun cfg st1 => st1.receive cfg sender (.go fingerprint pass whole)

/-- HOLD_FRAME: a valid HOLD is received (R70, R101, R120, R135). -/
def execHoldFrame (sender : Sender) (reasons : BitVec 16) (s : State) : Host.Outcome State Fault Refusal :=
  s.act fun st => st.whenConfigured fun cfg st1 => st1.receive cfg sender (.hold reasons)

/-- RESUME_FRAME: a valid RESUME is received (R86, R87, R101, R120, R135). -/
def execResumeFrame (sender : Sender) (fingerprint : BitVec 16) (pass : BitVec 32) (whole : BitVec 48) (s : State) :
    Host.Outcome State Fault Refusal :=
  s.act fun st => st.whenConfigured fun cfg st1 => st1.receive cfg sender (.resume fingerprint pass whole)

/-- TRIP_FRAME: a valid TRIP is received (R93, R101, R120, R135). -/
def execTripFrame (sender : Sender) (cause : BitVec 8) (s : State) : Host.Outcome State Fault Refusal :=
  s.act fun st => st.whenConfigured fun cfg st1 => st1.receive cfg sender (.trip cause)

end Sys2Proof.Machine
end

