-- ==== Sys2Proof/Machine/UpdateCommands.lean ====
section
/-! DEFINITION. The meanings of the commands of the update clock: the update itself, the changes of state that an update
reports, the counters' ends, the STALE entry and the beat instant. -/

namespace Sys2Proof.Machine

/-- An update in a configured state, in the order of log entry 5: the changes of state that the update before reported
(R39, R78), a beat instant still to be taken (R105), the Peer Table's tick (R100, R103), the countdown (R78), the Replay
Engine's steps (R38, R39), the Drive Line Interface's stages (R140), and the host port's two timers (R174, R185). -/
def Station.configuredUpdate (st : Station) (cfg : ConfigRecord) (inA inB : BitVec 48) : Station :=
  let st1 := (((st.takeReported cfg).takeDueBeat cfg).tickPeers cfg).countDown
  (((st1.replayUpdate cfg).driveUpdate cfg inA inB).partialTick).reportTick

/-- An update of a running station. Without a configuration only the partial-frame timer counts (R38, R139, R171, R174). -/
def Station.update (st : Station) (inA inB : BitVec 48) : Station :=
  if st.running then
    match st.config with
    | none => st.partialTick
    | some cfg => st.configuredUpdate cfg inA inB
  else st

/-- UPDATE: one tick of the update clock (R39, R140). -/
def execUpdate (inA inB : BitVec 48) (s : State) : Host.Outcome State Fault Refusal := s.act fun st => st.update inA inB

/-- TRACK_COUNT_REACHED: the tracking counter reaches M in the run group, TRACK is reported and the counter becomes 0
(R164); it has no effect while the counter is not one below M (log entry 8). -/
def execTrackCountReached (s : State) : Host.Outcome State Fault Refusal :=
  s.act fun st => st.whenConfigured fun cfg st1 =>
    if st1.ctl.mode.inRunGroup && decide (cfg.trackingCount.toNat ≤ st1.sup.trackCount + 1) then st1.trackReached cfg else st1

/-- DRIVE_SILENCE: the silence counter stands at 48 and silence is reported (R152); it has no effect below 48 (log
entry 8). -/
def execDriveSilence (s : State) : Host.Outcome State Fault Refusal :=
  s.act fun st => st.whenConfigured fun cfg st1 => st1.checkSilence cfg

/-- COUNTDOWN_EXPIRY: the countdown has reached 0 and the station enters RAMP-IN for the next update (R78); it has no
effect while the countdown does not stand at 0. -/
def execCountdownExpiry (s : State) : Host.Outcome State Fault Refusal :=
  s.act fun st => st.whenConfigured fun cfg st1 => st1.expireCountdown cfg

/-- END_OF_RAMP_IN: the fade gain has reached 32768 and the station enters PLAYING for the next update (R49); it has no
effect while no such end is reported. -/
def execEndOfRampIn (s : State) : Host.Outcome State Fault Refusal :=
  s.act fun st => st.whenConfigured fun cfg st1 => st1.endRampIn cfg

/-- END_OF_RAMP_OUT: the fade gain has reached 0 and the station enters HELD from RAMP-OUT, or COMPLETE from ENDING, for
the next update (R50); it has no effect while no such end is reported. -/
def execEndOfRampOut (s : State) : Host.Outcome State Fault Refusal :=
  s.act fun st => st.whenConfigured fun cfg st1 => st1.endRampOut cfg

/-- Whether the entry of a station number turns STALE at the coming tick of the Peer Table (R100). -/
def Station.staleNext (st : Station) (cfg : ConfigRecord) (k : StationNo) : Bool :=
  match st.peer k with
  | none => false
  | some e => e.turnsStale (silenceLimit cfg)

/-- PEER_STALE: an entry's BEAT age passes the silence limit, so the tick at which it does is taken: the entry becomes STALE
and PEER-LOST is raised (R100); it has no effect while the entry is not at that point (log entries 7 and 8). -/
def execPeerStale (number : StationNo) (s : State) : Host.Outcome State Fault Refusal :=
  s.act fun st => st.whenConfigured fun cfg st1 =>
    if st1.staleNext cfg number && !st1.peers.tickTaken then st1.tickAhead cfg else st1

/-- Whether the beat counter returns to 0 at the coming tick of the Peer Table (R103). -/
def Station.beatNext (st : Station) (cfg : ConfigRecord) : Bool :=
  match st.peers.beatCounter with
  | none => false
  | some n => decide (cfg.beatInterval.toNat ≤ n + 1) && !st.peers.tickTaken

/-- BEAT_INSTANT: the beat counter returns to 0 and the work of a beat instant is made (R103, R105). It is taken after the
update whose tick brought the counter to 0, or before it, with that tick (R41); it has no effect while no beat instant is
due (log entry 7). -/
def execBeatInstant (s : State) : Host.Outcome State Fault Refusal :=
  s.act fun st => st.whenConfigured fun cfg st1 =>
    if st1.peers.beatDue then st1.beatWork cfg
    else if st1.beatNext cfg then (st1.tickAhead cfg).beatWork cfg
    else st1

end Sys2Proof.Machine
end

