-- ==== Sys2Proof/Machine/Dispatch.lean ====
section
/-! DEFINITION. One arm per command: each is one call of its meaning. -/

namespace Sys2Proof.Machine

def exec (i : Instr) (s : State) : Host.Outcome State Fault Refusal :=
  match i with
  | .identify => Sys2Proof.Machine.execIdentify s
  | .configure record => Sys2Proof.Machine.execConfigure record s
  | .segmentOpen id length expected => Sys2Proof.Machine.execSegmentOpen id length expected s
  | .segmentData id part samples => Sys2Proof.Machine.execSegmentData id part samples s
  | .segmentDiscard id => Sys2Proof.Machine.execSegmentDiscard id s
  | .segmentInfo id => Sys2Proof.Machine.execSegmentInfo id s
  | .playlistAppend id repeats wait => Sys2Proof.Machine.execPlaylistAppend id repeats wait s
  | .playlistClear => Sys2Proof.Machine.execPlaylistClear s
  | .playlistRead index => Sys2Proof.Machine.execPlaylistRead index s
  | .schedulePasses passes => Sys2Proof.Machine.execSchedulePasses passes s
  | .arm => Sys2Proof.Machine.execArm s
  | .disarm => Sys2Proof.Machine.execDisarm s
  | .start position => Sys2Proof.Machine.execStart position s
  | .holdRequest => Sys2Proof.Machine.execHoldRequest s
  | .resumeRequest => Sys2Proof.Machine.execResumeRequest s
  | .acknowledge reasons => Sys2Proof.Machine.execAcknowledge reasons s
  | .abort => Sys2Proof.Machine.execAbort s
  | .clearTrip => Sys2Proof.Machine.execClearTrip s
  | .setLevel target => Sys2Proof.Machine.execSetLevel target s
  | .sideSend word => Sys2Proof.Machine.execSideSend word s
  | .sideRead => Sys2Proof.Machine.execSideRead s
  | .status => Sys2Proof.Machine.execStatus s
  | .peerRead number => Sys2Proof.Machine.execPeerRead number s
  | .eventsRead => Sys2Proof.Machine.execEventsRead s
  | .eventsClear events => Sys2Proof.Machine.execEventsClear events s
  | .reportRate n => Sys2Proof.Machine.execReportRate n s
  | .stationReset => Sys2Proof.Machine.execStationReset s
  | .stationResetEffect => Sys2Proof.Machine.execStationResetEffect s
  | .hostFrameRefused frame => Sys2Proof.Machine.execHostFrameRefused frame s
  | .hostByte b => Sys2Proof.Machine.execHostByte b s
  | .partialFrameTimeout => Sys2Proof.Machine.execPartialFrameTimeout s
  | .transmitterFrameSent => Sys2Proof.Machine.execTransmitterFrameSent s
  | .reportDue => Sys2Proof.Machine.execReportDue s
  | .update inA inB => Sys2Proof.Machine.execUpdate inA inB s
  | .trackCountReached => Sys2Proof.Machine.execTrackCountReached s
  | .driveSilence => Sys2Proof.Machine.execDriveSilence s
  | .countdownExpiry => Sys2Proof.Machine.execCountdownExpiry s
  | .endOfRampIn => Sys2Proof.Machine.execEndOfRampIn s
  | .endOfRampOut => Sys2Proof.Machine.execEndOfRampOut s
  | .peerStale number => Sys2Proof.Machine.execPeerStale number s
  | .beatInstant => Sys2Proof.Machine.execBeatInstant s
  | .idlePoint => Sys2Proof.Machine.execIdlePoint s
  | .arbitrationLost => Sys2Proof.Machine.execArbitrationLost s
  | .attemptAborted => Sys2Proof.Machine.execAttemptAborted s
  | .consecutiveAbortLimit => Sys2Proof.Machine.execConsecutiveAbortLimit s
  | .attemptCompleted => Sys2Proof.Machine.execAttemptCompleted s
  | .frameDropped frame => Sys2Proof.Machine.execFrameDropped frame s
  | .beatFrame sender fields => Sys2Proof.Machine.execBeatFrame sender fields s
  | .goFrame sender fingerprint pass whole => Sys2Proof.Machine.execGoFrame sender fingerprint pass whole s
  | .holdFrame sender reasons => Sys2Proof.Machine.execHoldFrame sender reasons s
  | .resumeFrame sender fingerprint pass whole => Sys2Proof.Machine.execResumeFrame sender fingerprint pass whole s
  | .tripFrame sender cause => Sys2Proof.Machine.execTripFrame sender cause s
  | .estopActive => Sys2Proof.Machine.execEstopActive s
  | .estopInactive => Sys2Proof.Machine.execEstopInactive s
  | .powerOn => Sys2Proof.Machine.execPowerOn s
  | .resetLineActive => Sys2Proof.Machine.execResetLineActive s
  | .resetLineInactive => Sys2Proof.Machine.execResetLineInactive s
  | .powerOff => Sys2Proof.Machine.execPowerOff s

end Sys2Proof.Machine
end

