-- ==== Sys2Proof/Machine/Step.lean ====
section
/-! DEFINITION. The step: the command in front of the queue is taken out and executed. -/

namespace Sys2Proof.Machine

/-- One step: the command in front of the queue acts on the state with the rest of the queue. With no command waiting the
block idles, since every event of the station, the tick of its clock among them, is itself a command (log entry 1). -/
def step (s : State) : Host.Outcome State Fault Refusal :=
  match s.pending with
  | [] => .next s
  | c :: rest => exec c { s with pending := rest }

/-- The state with the command that a word spells put in front of its queue; a word that spells none changes nothing. -/
def State.withFetchWord (s : State) (nbits w : Nat) : State :=
  match decodeTableWord nbits w with
  | none => s
  | some c => { s with pending := c :: s.pending }

end Sys2Proof.Machine
end

