-- ==== Sys2Proof/Safety.lean ====
section
/-! DEFINITION. What a good state of the station is, in parts that the statements name one by one: each part says what the
rules promise in every state, and every one is plain data that can be computed. Then the hypotheses that the statements
about commands share. -/

namespace Sys2Proof.Machine

/-! ### The Station Controller (R62 to R67, R78, R90, R96) -/

/-- The states in which the hold reason set is empty: no hold has begun, or it has been resumed (R64, R65). -/
def Mode.isUnheld : Mode → Bool
  | .unconfigured | .idle | .armed | .countdown | .rampIn | .playing => true
  | .rampOutMoving | .rampOutParked | .held | .ending | .complete | .tripped => false

/-- The states that a hold has brought about: RAMP-OUT and HELD (R66). -/
def Mode.isHolding : Mode → Bool
  | .rampOutMoving | .rampOutParked | .held => true
  | .unconfigured | .idle | .armed | .countdown | .rampIn | .playing | .ending | .complete | .tripped => false

/-- PERMIT follows the state (R96), UNCONFIGURED is the state without a configuration (R62), the countdown lies in 0..64 in
COUNTDOWN and is absent elsewhere (R78), the hold reason set is empty where no hold has begun (R64, R65), a hold has its
record (R66) and a trip its own (R91). -/
abbrev Station.ControllerOk (st : Station) : Prop :=
  st.ctl.permit = st.ctl.mode.isPermit ∧
  (st.config.isNone ↔ st.ctl.mode = Mode.unconfigured) ∧
  (st.ctl.countdown.isSome ↔ st.ctl.mode = Mode.countdown) ∧ st.ctl.countdown.getD 0 ≤ 64 ∧
  (st.ctl.mode.isUnheld → st.ctl.reasons = 0#10) ∧
  (st.ctl.mode.isHolding → st.ctl.holdRecord.isSome) ∧
  (st.ctl.mode = Mode.tripped → st.ctl.tripRecord.isSome)

/-- ATTENTION is active exactly while a latched event is in the attention mask, and the mask is absent exactly without a
configuration, where attentionOf gives inactive (R184). -/
abbrev Station.AttentionOk (st : Station) : Prop :=
  st.events.attention = attentionOf st.events.latched st.events.mask ∧ st.events.mask.isSome = st.config.isSome

/-! ### The Sample Store and the Segment Table (R1 to R11) -/

/-- The fields of a record that is not EMPTY: a length in range, the pages that it calls for, all of which exist (R3, R4). -/
def SegmentBody.fits (b : SegmentBody) : Bool :=
  decide (16 ≤ b.length) && decide (b.length ≤ storeSize) && (b.pageCount == ceilDiv b.length pageSize) &&
    decide (b.firstPage + b.pageCount ≤ pageTotal)

/-- A record as loading leaves it: LOADING has received whole parts of 48 and awaits the next, READY has equal checksums and
BAD has differing ones (R3, R8 to R10). -/
def Segment.legal : Segment → Bool
  | .empty => true
  | .loading b received next => b.fits && decide (received < b.length) && (received == 48 * next)
  | .ready b => b.fits && (b.computed == b.expected)
  | .bad b => b.fits && (b.computed != b.expected)

/-- Whether two records hold no page in common (R4). -/
def Segment.apart (x y : Segment) : Bool :=
  match x.body? with
  | none => true
  | some b => !y.overlaps b.firstPage b.pageCount

/-- Every record is legal, no two hold a page in common (R4), and at most one is LOADING (R6, R7). -/
abbrev Station.SegmentsOk (st : Station) : Prop :=
  (∀ i : Fin 64, st.segments[i].legal) ∧
  (∀ i j : Fin 64, i ≠ j → st.segments[i].apart st.segments[j]) ∧
  (∀ i j : Fin 64, i ≠ j → ¬ (st.segments[i].isLoading ∧ st.segments[j].isLoading))

/-- The store keeps its canonical form, and so holds samples at positions of the store alone (R1). -/
abbrev Station.StoreOk (st : Station) : Prop := Store.wf st.store = true

/-! ### The Schedule (R15, R20, R25, R27) -/

/-- The states in which the schedule is frozen and a position exists (R25, R42). -/
def Mode.isFrozen : Mode → Bool
  | .unconfigured | .idle => false
  | .armed | .countdown | .rampIn | .playing | .rampOutMoving | .rampOutParked | .held | .ending | .complete | .tripped => true

/-- A playlist entry as PLAYLIST-APPEND lets it in (R20, R21). -/
def Entry.legal (e : Entry) : Bool := isSegmentId e.segment && decide (1 ≤ e.repeats) && decide (e.repeats ≤ 65535)

/-- A position of the frozen schedule: legal (R27), its pass and fraction in range, its fraction 0 when it is parked
(R31, R32). -/
def Station.positionLegal (st : Station) (p : Position) : Bool :=
  st.legal p.pass p.whole && decide (p.pass < 4294967296) && decide (p.fraction < 65536) && (p.park == .none || p.fraction == 0)

/-- The playlist holds at most 96 legal entries and P fits its field (R20, R24); while the schedule is frozen every segment
it names is READY (R15), the tables are those of the playlist and P (R25, R26) and the position is legal (R27); otherwise
there are neither tables nor a position (R25, R42). -/
abbrev Station.ScheduleOk (st : Station) : Prop :=
  st.schedule.playlist.length ≤ playlistCapacity ∧ st.schedule.playlist.all Entry.legal ∧ st.schedule.passes ≤ 65535 ∧
  (st.ctl.mode.isFrozen → st.schedule.playlist ≠ [] ∧ (st.schedule.playlist.all fun e => (st.segment e.segment).isReady) ∧
    st.schedule.tables = some st.computeTables ∧ st.engine.position.any st.positionLegal) ∧
  (st.ctl.mode.isFrozen = false → st.schedule.tables = none ∧ st.engine.position = none)

/-! ### The Replay Engine (R37, R41, R49 to R60) -/

/-- The registers exist exactly with a configuration (R37). -/
abbrev Station.RegsOk (st : Station) : Prop := st.engine.regs.isSome = st.config.isSome

/-- The states in which g may be neither 0 nor fixed: the fades and PLAYING (R49 to R51). -/
def Mode.isFaded : Mode → Bool
  | .rampIn | .playing | .rampOutMoving | .rampOutParked | .ending => true
  | .unconfigured | .idle | .armed | .countdown | .held | .complete | .tripped => false

/-- g lies in 0..32768, is 32768 in PLAYING and 0 outside the fades and PLAYING; a reported end of a fade belongs to the
state that reported it, at the g that ends it (R49 to R51). -/
def Station.fadeOk (st : Station) : Bool :=
  match st.engine.regs with
  | none => true
  | some r =>
    decide (r.fade ≤ 32768) && (st.ctl.mode.isFaded || r.fade == 0) && (st.ctl.mode != .playing || r.fade == 32768) &&
      (st.engine.fadeEnd != some .rampIn || (st.ctl.mode == .rampIn && r.fade == 32768)) &&
      (st.engine.fadeEnd != some .rampOut || (st.ctl.mode.isFadingOut && r.fade == 0))

/-- The configuration in force has passed every check of CONFIGURE (R187, R188). -/
def Station.recordOk (st : Station) : Bool := st.config.all legalRecord

/-- A value that may be commanded: within Cmin..Cmax (R53). -/
def allowed (cfg : ConfigRecord) (c : Int) : Bool := decide (cMin cfg ≤ c) && decide (c ≤ cMax cfg)

/-- Every command stays inside the envelope: c, c_prev, the offer and the value last sent lie in Cmin..Cmax, and an offer
differs from the command before it by no more than Rmax (R53, R55 to R58). In TRIPPED c, c_prev and the offer stand at O
(R59). -/
def Station.commandOk (st : Station) : Bool :=
  match st.config, st.engine.regs with
  | some cfg, some r =>
    allowed cfg r.command && allowed cfg r.commandPrev &&
      (st.engine.offered.all fun o =>
        allowed cfg o.command && allowed cfg o.previous && decide ((o.command - o.previous).natAbs ≤ cfg.rateLimit.toNat)) &&
      st.drive.lastSent.all (allowed cfg) &&
      (st.drive.outA.all fun d => (d.isCommand && decide (d = commandDatagram (d.word.extractLsb' 16 16).toInt) &&
        allowed cfg (d.word.extractLsb' 16 16).toInt)) &&
      (st.ctl.mode != .tripped ||
        (r.command == offset cfg && r.commandPrev == offset cfg &&
          st.engine.offered == some { command := offset cfg, previous := offset cfg }))
  | _, _ => true

/-- The increment is N outside the moving states and within N ± N/64 in them (R41, R115). -/
def Station.incrementOk (st : Station) : Bool :=
  match st.config, st.engine.regs with
  | some cfg, some r =>
    if st.ctl.mode.isMoving then
      decide (nominal cfg - nominal cfg / 64 ≤ r.increment) && decide (r.increment ≤ nominal cfg + nominal cfg / 64)
    else r.increment == nominal cfg
  | _, _ => true

/-! ### The rig link (R98, R100, R125 to R132) -/

/-- A latched slot is the slot of the attempt under way, which carries that very frame (R129, R130). -/
def latchOk (slot : SlotName) (f : Option SlotFrame) (attempt : Option Attempt) : Bool :=
  match f with
  | none => true
  | some x => !x.latched || (attempt.any fun a => a.slot == slot && a.frame.body == x.body)

/-- The slots: a latch belongs to the attempt under way (R130); TRIPPED has emptied CONTROL (R91); IDLE holds neither a GO
nor a RESUME of its own (R74); without a configuration there is nothing to send (R137); the two counts are in range (R132,
R134); an own abort is on the line only between attempts (R131). -/
abbrev Station.SlotsOk (st : Station) : Prop :=
  latchOk .trip st.link.tripSlot st.link.attempt ∧ latchOk .control st.link.controlSlot st.link.attempt ∧
  (st.ctl.mode = Mode.tripped → st.link.controlSlot = none) ∧
  (st.ctl.mode = Mode.idle → isGo st.link.controlSlot = false ∧ isResume st.link.controlSlot = false) ∧
  (st.config = none → st.link = RigLink.reset) ∧
  st.link.aborts ≤ 15 ∧ st.link.linkErrors ≤ 65535 ∧ (st.link.ownAborted → st.link.attempt = none)

/-- The peer entries: none for the own number (R98), and a FRESH one within the silence limit (R100). -/
def Station.peersOk (st : Station) : Bool :=
  match st.config with
  | none => st.peers.entries.all (·.isNone)
  | some cfg =>
    (st.peer (own cfg)).isNone &&
      st.peers.entries.all fun e => e.all fun x =>
        decide (x.age ≤ 65535) && (!x.fresh || decide (x.age ≤ silenceLimit cfg))

/-! ### The drive line, the Supervision Unit and the host port (R139, R145, R148, R152, R164, R171, R176, R178) -/

/-- The report timer lies in 0..n × 64 − 1, and is absent exactly as n is (R171, R185). -/
def HostPort.reportTimerOk (port : HostPort) : Bool :=
  match port.reportInterval, port.reportTimer with
  | some n, some t => decide (t ≤ n * 64 - 1)
  | none, none => true
  | some _, none | none, some _ => false

/-- The counters and queues of the drive line, the tracking counter and the report timer are in range; in a configured state
the tracking counter lies below M, and the refresh counter below its interval (R139, R142, R145, R148, R152, R164, R171). -/
abbrev Station.CountersOk (st : Station) : Prop :=
  st.drive.sideQueue.length ≤ sideCapacity ∧ st.drive.sideLoss ≤ 255 ∧ st.drive.silence.getD 0 ≤ silenceBound ∧
  (st.config.all fun cfg => decide (st.sup.trackCount < cfg.trackingCount.toNat)) ∧
  (st.config.all fun cfg => decide (st.drive.refresh.getD 0 < cfg.refreshInterval.toNat)) ∧ st.port.reportTimerOk ∧
  st.engine.clampCount ≤ 4294967295 ∧ st.engine.rateCount ≤ 4294967295

/-- The host port: its buffers, busy queue and counts are in range (R171); an IDLE transmitter has nothing left to take
(R178); with the reply place empty no frame waits, unless a reset is to come (R176, R179). -/
abbrev Station.PortOk (st : Station) : Prop :=
  st.port.buffers.length ≤ bufferCapacity ∧ st.port.busy.length ≤ busyCapacity ∧ st.port.overrun ≤ 65535 ∧
  st.port.partialTimer.getD 0 < partialLimit ∧ (st.port.partialTimer.isSome ↔ st.port.receiver ≠ .hunting) ∧
  (st.port.sending = none →
    st.port.reply = none ∧ st.port.busy = [] ∧ st.port.reportPending = false ∧ st.port.buffers = []) ∧
  (st.port.reply = none → st.port.resetting = false → st.port.buffers = [])

/-! ### What the statements about commands suppose -/

/-- The state with another station and the same queue. -/
def State.withStation (s : State) (st : Station) : State := { s with station := st }

/-- A request that arrives now is served at once: the station runs, nothing waits, the reply place is empty and no reset is
to come (R176, R179). -/
abbrev Station.Serves (st : Station) : Prop := st.running = true ∧ st.port.ready = true

/-- The command that a request is when it arrives (9.4). -/
def commandOf : Request → Instr
  | .identify => .identify
  | .configure record => .configure record
  | .segmentOpen id length expected => .segmentOpen id length expected
  | .segmentData id part samples => .segmentData id part samples
  | .segmentDiscard id => .segmentDiscard id
  | .segmentInfo id => .segmentInfo id
  | .playlistAppend id repeats wait => .playlistAppend id repeats wait
  | .playlistClear => .playlistClear
  | .playlistRead index => .playlistRead index
  | .schedulePasses passes => .schedulePasses passes
  | .arm => .arm
  | .disarm => .disarm
  | .start position => .start position
  | .hold => .holdRequest
  | .resume => .resumeRequest
  | .acknowledge reasons => .acknowledge reasons
  | .abort => .abort
  | .clearTrip => .clearTrip
  | .setLevel target => .setLevel target
  | .sideSend word => .sideSend word
  | .sideRead => .sideRead
  | .status => .status
  | .peerRead number => .peerRead number
  | .eventsRead => .eventsRead
  | .eventsClear events => .eventsClear events
  | .reportRate n => .reportRate n
  | .stationReset => .stationReset

/-- The row by which a valid frame comes, with the mark of R135 (R99, R135). -/
def frameCommand (f : RigFrame) (bySelf : Bool) : Instr :=
  let sender : Sender := { number := f.sender, bySelf := bySelf }
  match f.body with
  | .trip cause => .tripFrame sender cause
  | .go fingerprint pass whole => .goFrame sender fingerprint pass whole
  | .hold reasons => .holdFrame sender reasons
  | .resume fingerprint pass whole => .resumeFrame sender fingerprint pass whole
  | .beat fields => .beatFrame sender fields

/-- The station runs in the configuration cfg. -/
abbrev Station.RunsIn (st : Station) (cfg : ConfigRecord) : Prop := st.running = true ∧ st.config = some cfg

end Sys2Proof.Machine
end

