-- ==== Sys2Proof/WellFormed.lean ====
section
/-! DEFINITION. Which commands can be commands at all: a SEGMENT-DATA that fits a frame, a refused frame that a check of
R176 refuses, and a dropped frame that a check of R133 drops. Every other command is well formed. -/

namespace Sys2Proof

/-- The most samples that fit the payload of a SEGMENT-DATA frame, 112 bytes (R172, R196). -/
def segmentDataMax : Nat := 53

/-- A completed host frame's payload fits a length byte that is not over-long (R172). -/
def payloadFits : HostFrame → Bool
  | .overLong _ => true
  | .whole _ payload _ => decide (payload.length ≤ 112)

/-- A host frame is refused by a check of R176. -/
def isRefused (f : HostFrame) : Bool :=
  match Machine.verdict f with
  | .refused .. => true
  | .request _ => false

/-- Whether a command is well formed. -/
def Instr.wellFormed : Instr → Bool
  | .segmentData _ _ samples => decide (samples.length ≤ segmentDataMax)
  | .hostFrameRefused f => payloadFits f && isRefused f
  | .frameDropped frame => (Machine.readFrame frame.bytes).isNone
  | .identify | .configure _ | .segmentOpen .. | .segmentDiscard _ | .segmentInfo _ | .playlistAppend .. | .playlistClear
  | .playlistRead _ | .schedulePasses _ | .arm | .disarm | .start _ | .holdRequest | .resumeRequest | .acknowledge _ | .abort
  | .clearTrip | .setLevel _ | .sideSend _ | .sideRead | .status | .peerRead _ | .eventsRead | .eventsClear _ | .reportRate _
  | .stationReset | .stationResetEffect | .hostByte _ | .partialFrameTimeout | .transmitterFrameSent | .reportDue | .update ..
  | .trackCountReached | .driveSilence | .countdownExpiry | .endOfRampIn | .endOfRampOut | .peerStale _ | .beatInstant | .idlePoint
  | .arbitrationLost | .attemptAborted | .consecutiveAbortLimit | .attemptCompleted | .beatFrame .. | .goFrame .. | .holdFrame ..
  | .resumeFrame .. | .tripFrame .. | .estopActive | .estopInactive | .powerOn | .resetLineActive | .resetLineInactive
  | .powerOff => true

end Sys2Proof
end

