-- ==== Sys2Proof/Certificates/Slice0/Obligations.lean ====
section
/-! DEFINITION. The statements for the provers. A command's statement gives the state that exec answers as a record update of
the state before, so that what it does not name is unchanged. The taking of a hold reason, of a trip cause and the entry
into IDLE are stated once, of their operations, and the commands' statements name those operations. -/

open Sys2Proof Sys2Proof.Machine

/-! ### The machine -/

/-- A step takes the command in front of the queue and runs it on the state with the rest of the queue; with no command
waiting it idles (log entry 1). -/
def Obligations.StepRunsTheFrontCommand : Prop :=
  (∀ (c : Instr) (s : State), step { s with pending := c :: s.pending } = exec c s) ∧
  (∀ s : State, s.pending = [] → step s = .next s)

/-- What power-on leaves in every block (R18, R36, R37, R97, R122, R125, R139, R157, R171, R181, R192, R193). That the supply
is on, RESET and ESTOP are inactive and the store lists nothing are the model's choices (log entries 3 and 4). -/
def Obligations.ResetIsPowerOn : Prop :=
  let st := State.reset.station
  State.reset.pending = [] ∧ st.power = true ∧ st.resetLine = false ∧ st.estopLine = false ∧ st.store = [] ∧
  st.startKind = .hard ∧ st.config = none ∧ (∀ i : Fin 64, st.segments[i] = .empty) ∧
  (∀ i : Fin 64, st.cutLoadings[i] = false) ∧
  st.schedule = { playlist := [], passes := 1, tables := none } ∧
  st.engine.position = none ∧ st.engine.regs = none ∧ st.engine.clampCount = 0 ∧ st.engine.rateCount = 0 ∧
  st.engine.offered = none ∧
  st.ctl = { mode := .unconfigured, reasons := 0, holdRecord := none, tripRecord := none, countdown := none, clash := false,
             permit := false } ∧
  (∀ k : StationNo, st.peer k = none) ∧ st.peers.ownShare = 0 ∧ st.peers.beatCounter = none ∧ st.peers.lastTrim = none ∧
  st.peers.groupSum = none ∧
  st.link.tripSlot = none ∧ st.link.controlSlot = none ∧ st.link.beatSlot = false ∧ st.link.aborts = 0 ∧ st.link.linkErrors = 0 ∧
  st.drive.lastSent = none ∧ st.drive.refresh = none ∧ st.drive.previousKind = .none ∧ st.drive.answered = none ∧
  st.drive.sideQueue = [] ∧ st.drive.autoSlot = none ∧ st.drive.band = none ∧ st.drive.force = none ∧
  st.drive.displacement = none ∧ st.drive.ampStatus = none ∧ st.drive.sideReply = none ∧ st.drive.newMark = false ∧
  st.drive.sideLoss = 0 ∧ st.drive.silence = none ∧
  st.sup = { trackCount := 0, forceWindow := none, dispWindow := none, lastError := none, lastApplied := none,
             trippingStatus := none, estopTaken := none } ∧
  st.port.receiver = .hunting ∧ st.port.partialTimer = none ∧ st.port.buffers = [] ∧ st.port.reply = none ∧ st.port.busy = [] ∧
  st.port.overrun = 0 ∧ st.port.sending = none ∧ st.port.reportInterval = none ∧ st.port.reportTimer = none ∧
  st.port.reportPending = false ∧
  st.events = { latched := 0, mask := none, attention := false }

/-- The state after reset meets every invariant that the statements about every step keep. -/
def Obligations.ResetMeetsEveryInvariant : Prop :=
  let st := State.reset.station
  st.ControllerOk ∧ st.AttentionOk ∧ st.SegmentsOk ∧ st.StoreOk ∧ st.ScheduleOk ∧ st.RegsOk ∧ st.fadeOk = true ∧
  st.recordOk = true ∧ st.commandOk = true ∧ st.incrementOk = true ∧ st.SlotsOk ∧ st.peersOk = true ∧ st.CountersOk ∧ st.PortOk

/-! ### The shared takings of the Station Controller -/

/-- What the taking of a hold reason does in each state (R65, R66, R67): in RAMP-IN and PLAYING a parked RAMP-OUT for WAIT
and a moving one for any other reason, in COUNTDOWN HELD; there a hold starts, with its record, the event HOLD and, unless
the reason is PEER or WAIT, a HOLD frame with the set. In RAMP-OUT, HELD, ENDING and COMPLETE the reason joins the set; in
the other states nothing happens. -/
def Obligations.HoldReasonTaken : Prop :=
  ∀ (st : Station) (cfg : ConfigRecord) (r : HoldReason) (origin : StationNo),
    let set := st.ctl.reasons ||| r.bit
    (∀ p : Position, st.engine.position = some p →
      let record : HoldRecord := { first := r, origin := origin, pass := p.pass, whole := p.whole, fraction := p.fraction }
      let started (m : Mode) (regs : Option EngineRegs) : Station :=
        { st with
          ctl := { st.ctl with mode := m, permit := true, countdown := none, reasons := set, holdRecord := some record }
          engine := { st.engine with fadeEnd := none, regs := regs }
          link := if r = .peer ∨ r = .wait then st.link
            else { st.link with controlSlot := some { body := .hold (set.setWidth 16), latched := false } }
          events := (st.events.raise .state).raise .hold }
      let stood := st.engine.regs.map fun x => { x with increment := nominal cfg }
      (st.ctl.mode = .rampIn ∨ st.ctl.mode = .playing →
        (r = .wait → st.takeReason cfg r origin = started .rampOutParked stood) ∧
        (r ≠ .wait → st.takeReason cfg r origin = started .rampOutMoving st.engine.regs)) ∧
      (st.ctl.mode = .countdown → st.takeReason cfg r origin = started .held stood)) ∧
    (st.ctl.mode = .rampOutMoving ∨ st.ctl.mode = .rampOutParked ∨ st.ctl.mode = .held ∨ st.ctl.mode = .ending ∨
        st.ctl.mode = .complete →
      st.takeReason cfg r origin = { st with ctl := { st.ctl with reasons := set } }) ∧
    (st.ctl.mode = .unconfigured ∨ st.ctl.mode = .idle ∨ st.ctl.mode = .armed ∨ st.ctl.mode = .tripped →
      st.takeReason cfg r origin = st)

/-- What the taking of a trip cause does (R90 to R92): in a permit state c and c_prev become O, g 0 and I N, O is offered,
PERMIT drops, the countdown goes, the record is set from the state and position before, CONTROL is emptied, a TRIP frame is
placed unless the cause is PEER-TRIP, and STATE and TRIP are raised; the set, the hold record, the position and G are kept.
In every other state, with a position or without, the cause is not taken. -/
def Obligations.TripTaken : Prop :=
  ∀ (st : Station) (cfg : ConfigRecord) (cause : TripCause) (origin : StationNo),
    (∀ p : Position, st.engine.position = some p → st.ctl.mode.isPermit = true →
      st.takeTrip cfg cause origin =
        { st with
          ctl := { st.ctl with
            mode := .tripped, permit := false, countdown := none
            tripRecord := some { cause := cause, origin := origin, state := st.ctl.mode, position := p } }
          engine := { st.engine with
            regs := st.engine.regs.map fun x =>
              { x with fade := 0, command := offset cfg, commandPrev := offset cfg, increment := nominal cfg }
            offered := some { command := offset cfg, previous := offset cfg }, fadeEnd := none }
          link := { st.link with
            controlSlot := none
            tripSlot := if cause = .peerTrip then st.link.tripSlot
              else some { body := .trip (BitVec.ofNat 8 cause.code), latched := false } }
          events := (st.events.raise .state).raise .trip }) ∧
    (st.ctl.mode.isPermit = false → st.takeTrip cfg cause origin = st)

/-! ### Requests that read -/

/-- A reply goes to the transmitter when it is IDLE and to the reply place when it is sending (R176, R178). The requests that
read are answered in every state and change nothing: IDENTIFY, STATUS and EVENTS-READ with the fields of R192, R180 and R182;
SEGMENT-INFO with the record and the pin of an id of 1..64 (R14); PLAYLIST-READ with the entry of an index the playlist has,
and the frozen start, L and fingerprint (R23); PEER-READ with the own record, the entry of another number of 0..23, or the
mark that there is none, in UNCONFIGURED for every number (R102). Any other operand is refused. DEDUCED: IDENTIFY carries the
store size as two fields of 2 bytes, and in UNCONFIGURED no number is the own one (log entry 13). What the bodies hold that
are named here, ReadBodiesSpellTheirFields says. -/
def Obligations.ReadRequestsAnswer : Prop :=
  (∀ (st : Station) (kind : Byte) (code : ResultCode) (body : List Byte),
    (st.port.sending = none →
      st.answer kind code body = { st with port := { st.port with sending := some { kind := kind, code := code, body := body } } }) ∧
    (st.port.sending ≠ none →
      st.answer kind code body = { st with port := { st.port with reply := some { kind := kind, code := code, body := body } } })) ∧
  (∀ s : State, s.station.Serves →
    let st := s.station
    exec .identify s = .next (s.withStation (st.answer 0x01#8 .ok
      (leBytes 2 2416 ++ leBytes 1 Config.designRevision ++ leBytes 2 512 ++ leBytes 2 8192 ++
        [64#8, 96#8, BitVec.ofNat 8 st.ctl.mode.code] ++ leOptional 1 (st.config.map (·.stationNumber.toNat)) ++
        leOptional 1 (st.config.map (·.group.toNat)) ++ [BitVec.ofNat 8 st.startKind.code, BitVec.ofNat 8 st.segmentsHeld]))) ∧
    exec .status s = .next (s.withStation (st.answer 0x16#8 .ok st.statusBody)) ∧
    exec .eventsRead s = .next (s.withStation (st.answer 0x18#8 .ok
      (leBytes 2 st.events.latched.toNat ++ leOptional 2 (st.events.mask.map (·.toNat))))) ∧
    (∀ id : BitVec 8, exec (.segmentInfo id) s = .next (s.withStation
      (if 1 ≤ id.toNat ∧ id.toNat ≤ 64 then
        st.answer 0x06#8 .ok (segmentInfoBody id.toNat (st.segment id.toNat) (st.pinned id.toNat))
      else st.answer 0x06#8 .noSegment []))) ∧
    (∀ index : BitVec 8, exec (.playlistRead index) s = .next (s.withStation
      (match st.schedule.playlist[index.toNat]? with
      | none => st.answer 0x09#8 .badArg ([BitVec.ofNat 8 st.schedule.playlist.length] ++ leBytes 2 st.schedule.passes)
      | some e => st.answer 0x09#8 .ok
          ([BitVec.ofNat 8 e.segment] ++ leBytes 2 e.repeats ++ [boolByte e.wait, BitVec.ofNat 8 st.schedule.playlist.length] ++
            leBytes 2 st.schedule.passes ++ leOptional 6 (st.schedule.tables.bind fun t => t.starts[index.toNat]?) ++
            leOptional 6 (st.schedule.tables.map (·.passLength)) ++
            leOptional 2 (st.schedule.tables.map (·.fingerprint.toNat)))))) ∧
    (∀ number : BitVec 8, ¬ number.toNat < 24 →
      exec (.peerRead number) s = .next (s.withStation (st.answer 0x17#8 .badArg []))) ∧
    (∀ cfg : ConfigRecord, st.config = some cfg →
      exec (.peerRead (BitVec.ofNat 8 (own cfg).val)) s = .next (s.withStation (st.answer 0x17#8 .ok (st.ownRecordBody cfg)))) ∧
    (∀ k : StationNo, (∀ cfg : ConfigRecord, st.config = some cfg → k ≠ own cfg) →
      (st.peer k = none →
        exec (.peerRead (BitVec.ofNat 8 k.val)) s = .next (s.withStation (st.answer 0x17#8 .ok [0#8]))) ∧
      (∀ e : PeerEntry, st.peer k = some e →
        exec (.peerRead (BitVec.ofNat 8 k.val)) s = .next (s.withStation (st.answer 0x17#8 .ok (1#8 :: e.body))))))

/-- The fields of the replies that ReadRequestsAnswer names, in order and width, an absent field's bytes zero. STATUS and
REPORT (R157, R180, R186): 107 bytes after the result code, the presence word first, whose bit k tells whether the field
numbered k in layout order is present (DEDUCED: that numbering is log entry 12). SEGMENT-INFO (R3, R14, R15). The own record
(R102; DEDUCED: which of its fields carry a presence byte is log entry 31). A peer entry (R98, R101; DEDUCED: its layout is log
entry 13). -/
def Obligations.ReadBodiesSpellTheirFields : Prop :=
  (∀ st : Station,
    let u (n : Nat) (v : Option Nat) : List Byte := leBytes n (v.getD 0)
    let i (n : Nat) (v : Option Int) : List Byte := leSigned n (v.getD 0)
    let isOn := decide (st.ctl.mode ≠ .unconfigured)
    let p := st.engine.position
    let m := p.bind fun x => st.mapWhole x.whole
    let r := st.engine.regs
    let d := st.drive
    let v := st.sup
    let present : List Bool :=
      [st.ctl.countdown.isSome, isOn] ++ List.replicate 4 p.isSome ++ List.replicate 3 m.isSome ++ List.replicate 6 r.isSome ++
        [d.force.isSome, d.displacement.isSome, d.ampStatus.isSome, d.answered.isSome, d.band.isSome, d.silence.isSome, isOn] ++
        [v.forceWindow.isSome, v.dispWindow.isSome, v.lastError.isSome, v.lastApplied.isSome, v.trippingStatus.isSome,
          v.estopTaken.isSome, st.port.reportInterval.isSome]
    let holdBytes : List Byte := match st.ctl.holdRecord with
      | none => leBytes 15 0
      | some x => [1#8, BitVec.ofNat 8 x.first.code, BitVec.ofNat 8 x.origin.val] ++ leBytes 4 x.pass ++ leBytes 6 x.whole ++
          leBytes 2 x.fraction
    let tripBytes : List Byte := match st.ctl.tripRecord with
      | none => leBytes 17 0
      | some x => [1#8, BitVec.ofNat 8 x.cause.code, BitVec.ofNat 8 x.origin.val, BitVec.ofNat 8 x.state.code] ++
          leBytes 4 x.position.pass ++ leBytes 6 x.position.whole ++ leBytes 2 x.position.fraction ++
          [BitVec.ofNat 8 x.position.park.code]
    st.statusBody.length = 107 ∧ present.length = 29 ∧
    st.statusBody =
      leBytes 4 (((List.range 29).map fun k => if present.getD k false then 2 ^ k else 0).sum) ++
      ([BitVec.ofNat 8 st.ctl.mode.code] ++ leBytes 2 st.ctl.reasons.toNat ++ holdBytes ++ tripBytes ++
        u 1 st.ctl.countdown ++ [boolByte (isOn && st.ctl.clash)]) ++
      (u 4 (p.map (·.pass)) ++ u 6 (p.map (·.whole)) ++ u 2 (p.map (·.fraction)) ++ u 1 (p.map (·.park.code)) ++
        u 1 (m.map (·.index)) ++ u 2 (m.map (·.repetition)) ++ u 3 (m.map (·.sample)) ++ u 2 (r.map (·.increment)) ++
        u 2 (r.map (·.fade)) ++ u 2 (r.map (·.level)) ++ u 2 (r.map (·.target)) ++ i 2 (r.map (·.command)) ++
        i 2 (r.map (·.commandPrev)) ++ leBytes 4 st.engine.clampCount ++ leBytes 4 st.engine.rateCount) ++
      (i 2 d.force ++ i 2 d.displacement ++ u 1 (d.ampStatus.map (·.toNat)) ++ i 2 d.answered ++ u 1 (d.band.map (·.code)) ++
        u 1 d.silence ++ u 1 (if isOn then some d.sideQueue.length else none)) ++
      ([BitVec.ofNat 8 v.trackCount] ++ u 1 (v.forceWindow.map (·.code)) ++ u 1 (v.dispWindow.map (·.code)) ++ i 3 v.lastError ++
        u 1 (v.lastApplied.map (·.toNat)) ++ u 1 (v.trippingStatus.map (·.toNat)) ++ u 1 (v.estopTaken.map (·.toNat))) ++
      (leBytes 2 st.link.linkErrors ++ [BitVec.ofNat 8 st.link.aborts]) ++ leBytes 2 st.events.latched.toNat ++
      (leBytes 2 st.port.overrun ++ u 1 st.port.reportInterval)) ∧
  (∀ (id : Nat) (x : Segment) (pinned : Bool),
    let fields (code : Byte) (b : Option SegmentBody) (received next : Option Nat) : List Byte :=
      [BitVec.ofNat 8 id, code] ++ leOptional 2 (b.map (·.firstPage)) ++ leOptional 2 (b.map (·.pageCount)) ++
        leOptional 4 (b.map (·.length)) ++ leOptional 2 (b.map (·.expected.toNat)) ++ leOptional 2 (b.map (·.computed.toNat)) ++
        leOptional 4 received ++ leOptional 3 next ++ [boolByte pinned]
    segmentInfoBody id x pinned = match x with
      | .empty => fields 0#8 none none none
      | .loading b received next => fields 1#8 (some b) (some received) (some next)
      | .ready b => fields 2#8 (some b) (some b.length) none
      | .bad b => fields 3#8 (some b) (some b.length) none) ∧
  (∀ (st : Station) (id : Nat), st.pinned id = true ↔
    (∃ e ∈ st.schedule.playlist, e.segment = id) ∧ st.ctl.mode ≠ .unconfigured ∧ st.ctl.mode ≠ .idle) ∧
  (∀ (st : Station) (cfg : ConfigRecord),
    st.ownRecordBody cfg = [BitVec.ofNat 8 (own cfg).val] ++ leSigned 3 st.peers.ownShare ++ leOptional 1 st.peers.beatCounter ++
      leOptional 1 (st.peers.lastTrim.map (·.size)) ++ leOptionalSigned 8 (st.peers.lastTrim.map (·.median)) ++
      leOptionalSigned 2 (st.peers.lastTrim.map (·.trim)) ++ leOptional 2 (st.engine.regs.map (·.increment)) ++
      leOptionalSigned 3 st.peers.groupSum ++ [boolByte st.ctl.clash]) ∧
  (∀ e : PeerEntry,
    let control : List Byte := match e.lastControl with
      | none => [0#8, 0#8] ++ leBytes 3 0 ++ leBytes 11 0
      | some l => [1#8, BitVec.ofNat 8 l.seen.code, 1#8] ++ leBytes 2 l.age ++ (match l.seen with
        | .go => leBytes 11 0
        | .hold reasons => [1#8] ++ leBytes 2 reasons.toNat ++ leBytes 8 0
        | .resume pass whole => [1#8] ++ leBytes 4 pass ++ leBytes 6 whole
        | .trip cause => [1#8, cause] ++ leBytes 9 0)
    e.body = [BitVec.ofNat 8 e.state.code, BitVec.ofNat 8 e.group] ++ leOptional 2 (e.schedule.map (·.fingerprint.toNat)) ++
      leOptional 2 (e.schedule.map (·.pass)) ++ leOptional 4 (e.schedule.map (·.whole)) ++
      leOptional 2 (e.schedule.map (·.fraction)) ++ [boolByte e.holdFlag] ++ leBytes 2 e.reasons.toNat ++ leSigned 3 e.share ++
      leBytes 2 e.age ++ [if e.fresh then 0#8 else 1#8, boolByte e.runMark] ++ control)

/-! ### Configuration -/

/-- CONFIGURE in UNCONFIGURED: a legal record is taken whole, each block with its CONFIGURE values, IDLE entered and STATE
raised, an active ESTOP taken as becoming active in IDLE (R71, R166, R187, R189); a record with a failing field is refused with
the index of the first one, and in every other state the request is refused (R71, R188). A check fails exactly when its field
lies outside its legal values, the fields 4, 9, 15, 17, 21 to 24, 29, 30 and 32 taking any value (R187). -/
def Obligations.ConfigureDecides : Prop :=
  (∀ (s : State) (r : ConfigRecord), s.station.Serves →
    let st := s.station
    (st.ctl.mode ≠ .unconfigured →
      exec (.configure r) s = .next (s.withStation (st.answer 0x02#8 .badState []))) ∧
    (st.ctl.mode = .unconfigured → ∀ index, (index, false) ∈ recordChecks r →
      (∀ j, j < index → (j, false) ∉ recordChecks r) →
      exec (.configure r) s = .next (s.withStation (st.answer 0x02#8 .badArg [BitVec.ofNat 8 index]))) ∧
    (st.ctl.mode = .unconfigured → (∀ index, (index, false) ∉ recordChecks r) →
      let latched := if st.estopLine then st.events.latched ||| Event.state.bit ||| Event.estop.bit
        else st.events.latched ||| Event.state.bit
      let mask : Option EventBits := some (r.attentionMask.setWidth 15)
      exec (.configure r) s = .next (s.withStation (({ st with
        config := some r
        ctl := { mode := .idle, reasons := 0, holdRecord := none, tripRecord := none, countdown := none, clash := st.ctl.clash,
                 permit := false }
        engine :=
          { position := none, clampCount := 0, rateCount := 0, offered := none, fadeEnd := none
            regs := some { increment := r.sampleRate.toNat * 16, fade := 0, level := r.initialLevel.toNat,
                           target := r.initialLevel.toNat, command := r.holdOffset.toInt, commandPrev := r.holdOffset.toInt } }
        peers := { PeerTable.reset with beatCounter := some 0 }
        link := RigLink.reset
        drive := { DriveLine.reset with
          refresh := some 0, silence := some 0, ampStatus := some 0x80#8
          autoSlot := if r.gainEnable = 1#8 then some r.lowWord else none
          band := if r.gainEnable = 1#8 then some .low else none }
        sup := { Supervision.reset with estopTaken := some st.estopLine }
        port := { st.port with
          reportInterval := some r.reportInterval.toNat, reportTimer := some 0, reportPending := false, reportTaken := false }
        events := { latched := latched, mask := mask, attention := attentionOf latched mask } } : Station).answer
          0x02#8 .ok [r.stationNumber, r.group])))) ∧
  (∀ (r : ConfigRecord) (index : Nat), (index, false) ∈ recordChecks r ↔
    (index = 1 ∧ 23 < r.stationNumber.toNat) ∨ (index = 2 ∧ 7 < r.group.toNat) ∨ (index = 3 ∧ 1 < r.role.toNat) ∨
    (index = 5 ∧ r.sampleRate.toNat ∉ [256, 512, 1024, 2048]) ∨ (index = 6 ∧ r.beatInterval.toNat ∉ [8, 16, 32]) ∨
    (index = 7 ∧ r.fadeLength.toNat < 512) ∨ (index = 8 ∧ (r.levelStep.toNat < 1 ∨ 1024 < r.levelStep.toNat)) ∨
    (index = 10 ∧ r.commandMin.toInt < -32767) ∨
    (index = 11 ∧ (r.commandMax.toInt < -32767 ∨ r.commandMax.toInt ≤ r.commandMin.toInt)) ∨
    (index = 12 ∧ (r.holdOffset.toInt < r.commandMin.toInt ∨ r.commandMax.toInt < r.holdOffset.toInt)) ∨
    (index = 13 ∧ (r.rateLimit.toNat < 1 ∨ 65534 < r.rateLimit.toNat)) ∨
    (index = 14 ∧ (r.slipLimit.toNat < 1 ∨ 64 < r.slipLimit.toNat)) ∨
    (index = 16 ∧ r.forceMax.toInt ≤ r.forceMin.toInt) ∨ (index = 18 ∧ r.dispMax.toInt ≤ r.dispMin.toInt) ∨
    (index = 19 ∧ r.trackingLimit = 0#16) ∨ (index = 20 ∧ r.trackingCount = 0#8) ∨
    (index = 25 ∧ (r.refreshInterval.toNat < 1 ∨ 16 < r.refreshInterval.toNat)) ∨ (index = 26 ∧ 1 < r.gainEnable.toNat) ∨
    (index = 27 ∧ r.threshold = 0#16) ∨ (index = 28 ∧ r.threshold.toNat ≤ r.hysteresis.toNat) ∨
    (index = 31 ∧ r.attentionMask.getLsbD 15 = true))

/-! ### The Sample Store and the Segment Table -/

/-- SEGMENT-OPEN that passes every check makes the record LOADING on the lowest run of free pages that is long enough, and
answers with the first page and the page count (R4, R6, R7). -/
def Obligations.SegmentOpenTaken : Prop :=
  ∀ (s : State) (id : BitVec 8) (length : BitVec 32) (expected : BitVec 16) (f : Nat), s.station.Serves →
    let st := s.station
    let count := (length.toNat + 8191) / 8192
    st.ctl.mode ≠ .unconfigured → 1 ≤ id.toNat → id.toNat ≤ 64 → st.segment id.toNat = .empty →
    (∀ k, (st.segment k).isLoading = false) → 16 ≤ length.toNat → length.toNat ≤ 4194304 →
    st.runFree f count = true → (∀ g, g < f → st.runFree g count = false) →
    exec (.segmentOpen id length expected) s = .next (s.withStation
      ((st.setSegment id.toNat (.loading
        { firstPage := f, pageCount := count, length := length.toNat, expected := expected, computed := 0xFFFF#16 } 0 0)).answer
          0x03#8 .ok (leBytes 2 f ++ leBytes 2 count)))

/-- SEGMENT-OPEN that fails a check is refused with that check's code, in the order of the table of R6, and changes nothing;
BUSY carries the id of a segment that is loading. -/
def Obligations.SegmentOpenRefused : Prop :=
  ∀ (s : State) (id : BitVec 8) (length : BitVec 32) (expected : BitVec 16), s.station.Serves →
    let st := s.station
    let refused (code : ResultCode) (body : List Byte) :=
      exec (.segmentOpen id length expected) s = .next (s.withStation (st.answer 0x03#8 code body))
    let isId := 1 ≤ id.toNat ∧ id.toNat ≤ 64
    let isLength := 16 ≤ length.toNat ∧ length.toNat ≤ 4194304
    (st.ctl.mode = .unconfigured → refused .badState []) ∧
    (st.ctl.mode ≠ .unconfigured → ¬ isId → refused .noSegment []) ∧
    (st.ctl.mode ≠ .unconfigured → isId → st.segment id.toNat ≠ .empty → refused .badState []) ∧
    (st.ctl.mode ≠ .unconfigured → isId → st.segment id.toNat = .empty →
      (∃ k, 1 ≤ k ∧ k ≤ 64 ∧ (st.segment k).isLoading = true) →
      ∃ k, 1 ≤ k ∧ k ≤ 64 ∧ (st.segment k).isLoading = true ∧ refused .busy [BitVec.ofNat 8 k]) ∧
    (st.ctl.mode ≠ .unconfigured → isId → st.segment id.toNat = .empty → (∀ k, (st.segment k).isLoading = false) → ¬ isLength →
      refused .badArg []) ∧
    (st.ctl.mode ≠ .unconfigured → isId → st.segment id.toNat = .empty → (∀ k, (st.segment k).isLoading = false) → isLength →
      (∀ f, st.runFree f ((length.toNat + 8191) / 8192) = false) → refused .noSpace [])

/-- SEGMENT-DATA that passes every check writes its samples from the position that follows those received, advances the
checksum over them, and leaves the segment LOADING; the part that reaches the length makes it READY or BAD by the checksums
and raises the event (R1, R8 to R11). -/
def Obligations.SegmentDataTaken : Prop :=
  ∀ (s : State) (id : BitVec 8) (part : BitVec 32) (samples : List Sample) (b : SegmentBody) (m : Nat), s.station.Serves →
    let st := s.station
    let n := samples.length
    st.ctl.mode ≠ .unconfigured → 1 ≤ id.toNat → id.toNat ≤ 64 → st.segment id.toNat = .loading b m part.toNat →
    1 ≤ n → n ≤ 48 → m + n ≤ b.length → (m + n = b.length ∨ n = 48) →
    let computed := crc16 b.computed (samples.flatMap sampleBytes)
    let b' := { b with computed := computed }
    let written : Station := { st with store := writeSamples st.store (b.firstPage * 8192 + m) samples }
    (m + n < b.length →
      exec (.segmentData id part samples) s = .next (s.withStation
        ((written.setSegment id.toNat (.loading b' (m + n) (part.toNat + 1))).answer 0x04#8 .ok [1#8]))) ∧
    (m + n = b.length → computed = b.expected →
      exec (.segmentData id part samples) s = .next (s.withStation
        (((written.setSegment id.toNat (.ready b')).raise .segmentReady).answer 0x04#8 .ok [2#8]))) ∧
    (m + n = b.length → computed ≠ b.expected →
      exec (.segmentData id part samples) s = .next (s.withStation
        (((written.setSegment id.toNat (.bad b')).raise .segmentBad).answer 0x04#8 .ok [3#8])))

/-- SEGMENT-DATA that fails a check is refused with that check's code, in the order of the table of R8, and changes nothing;
OUT-OF-ORDER carries the part index awaited. Before the first part of a loading whose id last discarded a LOADING record, a part
with an index other than 0 is refused BAD-STATE, as R13 says of that case alone (DEDUCED, log entry 29). -/
def Obligations.SegmentDataRefused : Prop :=
  ∀ (s : State) (id : BitVec 8) (part : BitVec 32) (samples : List Sample), s.station.Serves →
    let st := s.station
    let n := samples.length
    let refused (code : ResultCode) (body : List Byte) :=
      exec (.segmentData id part samples) s = .next (s.withStation (st.answer 0x04#8 code body))
    let isId := 1 ≤ id.toNat ∧ id.toNat ≤ 64
    (st.ctl.mode = .unconfigured → refused .badState []) ∧
    (st.ctl.mode ≠ .unconfigured → ¬ isId → refused .noSegment []) ∧
    (st.ctl.mode ≠ .unconfigured → isId → (st.segment id.toNat).isLoading = false → refused .badState []) ∧
    (∀ b m next, st.ctl.mode ≠ .unconfigured → isId → st.segment id.toNat = .loading b m next →
      (part.toNat ≠ next → st.wasCut id.toNat = false ∨ next ≠ 0 → refused .outOfOrder (leBytes 3 next)) ∧
      (part ≠ 0#32 → st.wasCut id.toNat = true → next = 0 → refused .badState []) ∧
      (part.toNat = next → ¬ (1 ≤ n ∧ n ≤ 48) → refused .badArg []) ∧
      (part.toNat = next → 1 ≤ n ∧ n ≤ 48 → b.length < m + n → refused .badArg []) ∧
      (part.toNat = next → 1 ≤ n ∧ n ≤ 48 → m + n < b.length → n ≠ 48 → refused .badArg []))

/-- Samples written from a linear index on are read back there, −32768 as −32767, every other index reads as before, and the
store keeps its canonical form (R1, R9). -/
def Obligations.WrittenSamplesReadBack : Prop :=
  ∀ (store : Store) (i : Nat) (samples : List Sample), Store.wf store = true → i + samples.length ≤ 4194304 →
    Store.wf (writeSamples store i samples) = true ∧
    (∀ (j : Nat) (x : Sample), samples[j]? = some x →
      Store.read (writeSamples store i samples) (i + j) = if x = 0x8000#16 then 0x8001#16 else x) ∧
    (∀ k, k < i ∨ i + samples.length ≤ k → Store.read (writeSamples store i samples) k = Store.read store k)

/-- SEGMENT-DISCARD is decided by the first row of the table of R12 that applies; an accepted one makes the record EMPTY and
changes nothing else, but that the table remembers whether the record was LOADING (DEDUCED, log entry 29). -/
def Obligations.SegmentDiscardDecides : Prop :=
  ∀ (s : State) (id : BitVec 8), s.station.Serves →
    let st := s.station
    let isId := 1 ≤ id.toNat ∧ id.toNat ≤ 64
    let isPinned := (∃ e ∈ st.schedule.playlist, e.segment = id.toNat) ∧ st.ctl.mode ≠ .unconfigured ∧ st.ctl.mode ≠ .idle
    let answered (code : ResultCode) := exec (.segmentDiscard id) s = .next (s.withStation (st.answer 0x05#8 code []))
    (st.ctl.mode = .unconfigured → answered .badState) ∧
    (st.ctl.mode ≠ .unconfigured → ¬ isId → answered .noSegment) ∧
    (st.ctl.mode ≠ .unconfigured → isId → st.segment id.toNat = .empty → answered .ok) ∧
    (st.ctl.mode ≠ .unconfigured → isId → st.segment id.toNat ≠ .empty → isPinned → answered .locked) ∧
    (st.ctl.mode ≠ .unconfigured → isId → st.segment id.toNat ≠ .empty → ¬ isPinned →
      exec (.segmentDiscard id) s =
        .next (s.withStation ((({ st with
          cutLoadings := st.cutLoadings.setIfInBounds (id.toNat - 1) (st.segment id.toNat).isLoading } : Station).setSegment
            id.toNat .empty).answer 0x05#8 .ok [])))

/-! ### The Schedule -/

/-- PLAYLIST-APPEND is refused with the code of the first check of R21 that fails, and otherwise adds its entry at the end and
answers with its index and the new number of entries. -/
def Obligations.PlaylistAppendDecides : Prop :=
  ∀ (s : State) (id : BitVec 8) (repeats : BitVec 16) (wait : BitVec 8), s.station.Serves →
    let st := s.station
    let n := st.schedule.playlist.length
    let isId := 1 ≤ id.toNat ∧ id.toNat ≤ 64
    let refused (code : ResultCode) :=
      exec (.playlistAppend id repeats wait) s = .next (s.withStation (st.answer 0x07#8 code []))
    (st.ctl.mode ≠ .idle → refused .badState) ∧
    (st.ctl.mode = .idle → ¬ isId → refused .noSegment) ∧
    (st.ctl.mode = .idle → isId → repeats = 0#16 → refused .badArg) ∧
    (st.ctl.mode = .idle → isId → repeats ≠ 0#16 → 2 ≤ wait.toNat → refused .badArg) ∧
    (st.ctl.mode = .idle → isId → repeats ≠ 0#16 → wait.toNat ≤ 1 → 96 ≤ n → refused .full) ∧
    (st.ctl.mode = .idle → isId → repeats ≠ 0#16 → wait.toNat ≤ 1 → n < 96 →
      exec (.playlistAppend id repeats wait) s = .next (s.withStation
        (({ st with schedule := { st.schedule with playlist := st.schedule.playlist ++
            [{ segment := id.toNat, repeats := repeats.toNat, wait := decide (wait = 1#8) }] } } : Station).answer 0x07#8 .ok
          [BitVec.ofNat 8 n, BitVec.ofNat 8 (n + 1)])))

/-- PLAYLIST-CLEAR and SCHEDULE-PASSES in IDLE empty the playlist and set P, and change nothing else; in every other state
they are refused (R22, R24). -/
def Obligations.PlaylistClearAndPassesInIdle : Prop :=
  ∀ s : State, s.station.Serves →
    let st := s.station
    (st.ctl.mode = .idle →
      exec .playlistClear s = .next (s.withStation
        (({ st with schedule := { st.schedule with playlist := [] } } : Station).answer 0x08#8 .ok []))) ∧
    (st.ctl.mode ≠ .idle → exec .playlistClear s = .next (s.withStation (st.answer 0x08#8 .badState []))) ∧
    (∀ passes : BitVec 16,
      (st.ctl.mode = .idle →
        exec (.schedulePasses passes) s = .next (s.withStation
          (({ st with schedule := { st.schedule with passes := passes.toNat } } : Station).answer 0x0A#8 .ok []))) ∧
      (st.ctl.mode ≠ .idle →
        exec (.schedulePasses passes) s = .next (s.withStation (st.answer 0x0A#8 .badState []))))

/-- A whole position below the pass length lies in the entry that the mapping names, in one of its repetitions, on a sample
of its segment (R25, R28); the interpolated value of two samples lies between them, and is the first at fraction 0 (R43,
R44). -/
def Obligations.PositionsMapAndInterpolate : Prop :=
  (∀ (st : Station) (whole : Nat),
    st.schedule.tables = some st.computeTables → (∀ e ∈ st.schedule.playlist, 0 < st.span e) → whole < st.passLength →
    ∃ (i : Nat) (e : Entry) (start : Nat),
      st.schedule.playlist[i]? = some e ∧ start = ((st.schedule.playlist.take i).map st.span).sum ∧
      start ≤ whole ∧ whole < start + st.span e ∧
      st.mapWhole whole = some (Mapped.mk i e start ((whole - start) / st.segmentLength e.segment)
        ((whole - start) % st.segmentLength e.segment)) ∧
      (whole - start) / st.segmentLength e.segment < e.repeats ∧
      (whole - start) % st.segmentLength e.segment < st.segmentLength e.segment) ∧
  (∀ (s0 s1 : Int) (fraction : Nat), fraction < 65536 →
    min s0 s1 ≤ interpolate s0 s1 fraction ∧ interpolate s0 s1 fraction ≤ max s0 s1 ∧ interpolate s0 s1 0 = s0)

/-- One step and one update of the position. A carry of 1 is one single step: at L − 1 of the final pass it parks with END, on a
WAIT end with WAIT, both with fraction 0, at L − 1 else it begins the next pass, elsewhere the next sample; the next sample of
the interpolation is that of the position so reached, or of the position itself where it parks (R29 to R34, R40, R43), and a
sample is read from the store by the mapping (R16, R28). A pass end raises PASS. A WAIT park is the taking of WAIT in RAMP-IN
and PLAYING, and makes a moving RAMP-OUT a parked one with WAIT in the set; an END park enters ENDING from all three (R30 to
R32, R63, R65, R88). DEDUCED: what a park reports is taken inside the update that parks (log entry 9). -/
def Obligations.ScheduleSteps : Prop :=
  (∀ (st : Station) (p : Position) (t : Tables), st.schedule.tables = some t →
    let atEnd := p.whole + 1 = t.passLength
    let final := st.schedule.passes ≠ 0 ∧ p.pass = st.schedule.passes
    let waits := ∃ m, st.mapWhole p.whole = some m ∧ m.entry.wait = true ∧
      p.whole + 1 = m.start + st.segmentLength m.entry.segment * m.entry.repeats
    (p.park ≠ .none → st.singleStep p = (p, .nothing) ∧ st.nextWhole p = p.whole) ∧
    (p.park = .none → atEnd → final →
      st.singleStep p = ({ p with fraction := 0, park := .finish }, .endPark) ∧ st.nextWhole p = p.whole) ∧
    (p.park = .none → ¬ (atEnd ∧ final) → waits →
      st.singleStep p = ({ p with fraction := 0, park := .wait }, .waitPark) ∧ st.nextWhole p = p.whole) ∧
    (p.park = .none → atEnd → ¬ final → ¬ waits →
      st.singleStep p = ({ p with pass := (p.pass + 1) % 2 ^ 32, whole := 0 }, .passEnd) ∧ st.nextWhole p = 0) ∧
    (p.park = .none → ¬ atEnd → ¬ waits →
      st.singleStep p = ({ p with whole := p.whole + 1 }, .nothing) ∧ st.nextWhole p = p.whole + 1)) ∧
  (∀ (st : Station) (p : Position), st.engine.position = some p →
    st.interpolated = interpolate (st.sampleAt p.whole) (st.sampleAt (st.nextWhole p)) p.fraction) ∧
  (∀ (st : Station) (whole : Nat) (m : Mapped) (b : SegmentBody), st.mapWhole whole = some m →
    st.segment m.entry.segment = .ready b →
    st.sampleAt whole = (Store.read st.store (b.firstPage * 8192 + m.sample)).toInt) ∧
  (∀ (st : Station) (cfg : ConfigRecord),
    let stood := st.engine.regs.map fun x => { x with increment := nominal cfg }
    let entered (m : Mode) (set : ReasonSet) : Station := { st with
      ctl := { st.ctl with mode := m, permit := true, countdown := none, reasons := set }
      engine := { st.engine with fadeEnd := none, regs := stood }
      events := st.events.raise .state }
    st.takeStepReport cfg .nothing = st ∧ st.takeStepReport cfg .passEnd = { st with events := st.events.raise .pass } ∧
    (st.ctl.mode = .rampIn ∨ st.ctl.mode = .playing →
      st.takeStepReport cfg .waitPark = st.takeReason cfg .wait (own cfg)) ∧
    (st.ctl.mode = .rampOutMoving →
      st.takeStepReport cfg .waitPark = entered .rampOutParked (st.ctl.reasons ||| HoldReason.wait.bit)) ∧
    (st.ctl.mode = .rampIn ∨ st.ctl.mode = .playing ∨ st.ctl.mode = .rampOutMoving →
      st.takeStepReport cfg .endPark = entered .ending st.ctl.reasons)) ∧
  (∀ (st : Station) (cfg : ConfigRecord) (p : Position) (r : EngineRegs), st.engine.position = some p →
    st.engine.regs = some r →
    let sum := p.fraction + r.increment
    let stepped := st.singleStep { p with fraction := sum - 65536 }
    let placed (x : Position) : Station := { st with engine := { st.engine with position := some x } }
    (p.park ≠ .none → st.advance cfg = st) ∧
    (p.park = .none → sum < 65536 → st.advance cfg = placed { p with fraction := sum }) ∧
    (p.park = .none → 65536 ≤ sum → sum < 131072 →
      st.advance cfg = (placed stepped.1).takeStepReport cfg stepped.2 ∧
      (st.advance cfg).engine.position = some stepped.1))

/-! ### Requests of the Station Controller -/

/-- An accepted ARM computes and freezes the tables, sets the position and zeroes the counts, empties the two records, the
tracking counter and the tripping status, and enters ARMED with PERMIT active (R25, R26, R37, R72, R73, R157). -/
def Obligations.ArmTaken : Prop :=
  ∀ (s : State) (cfg : ConfigRecord) (n : Nat) (a : AmpStatus), s.station.Serves →
    let st := s.station
    st.config = some cfg → st.incrementOk = true → st.ctl.mode = .idle → st.schedule.playlist ≠ [] →
    (∀ e ∈ st.schedule.playlist, (st.segment e.segment).isReady = true) →
    st.drive.silence = some n → n < 48 → st.drive.ampStatus = some a → a.getLsbD 7 = false →
    st.sup.estopTaken ≠ some true → st.ctl.clash = false →
    let fingerprint := crc16 0xFFFF#16 (st.schedule.playlist.flatMap st.entryBytes ++ leBytes 2 st.schedule.passes)
    let tables : Tables :=
      { starts := startsFrom 0 (st.schedule.playlist.map st.span), passLength := (st.schedule.playlist.map st.span).sum,
        fingerprint := fingerprint }
    exec .arm s = .next (s.withStation (({ st with
      ctl := { st.ctl with mode := .armed, permit := true, countdown := none, holdRecord := none, tripRecord := none }
      schedule := { st.schedule with tables := some tables }
      engine := { st.engine with
        position := some { pass := 1, whole := 0, fraction := 0, park := .none }, clampCount := 0, rateCount := 0, fadeEnd := none }
      sup := { st.sup with trackCount := 0, trippingStatus := none }
      events := st.events.raise .state } : Station).answer 0x0B#8 .ok (leBytes 2 fingerprint.toNat)))

/-- ARM outside IDLE is refused BAD-STATE; in IDLE the first condition of R72 that fails refuses it NOT-READY with its
number, condition 2 with the index of the first entry whose segment is not READY; nothing changes. -/
def Obligations.ArmRefused : Prop :=
  ∀ (s : State) (cfg : ConfigRecord), s.station.Serves →
    let st := s.station
    let refused (code : ResultCode) (body : List Byte) := exec .arm s = .next (s.withStation (st.answer 0x0B#8 code body))
    let someReady := st.schedule.playlist ≠ [] ∧ ∀ e ∈ st.schedule.playlist, (st.segment e.segment).isReady = true
    let heard := ∃ n, st.drive.silence = some n ∧ n < 48
    let ready := ∃ a : AmpStatus, st.drive.ampStatus = some a ∧ a.getLsbD 7 = false
    (st.ctl.mode ≠ .idle → refused .badState []) ∧
    (st.config = some cfg → st.ctl.mode = .idle →
      (st.schedule.playlist = [] → refused .notReady [1#8]) ∧
      (∀ (i : Nat) (e : Entry), st.schedule.playlist[i]? = some e → (st.segment e.segment).isReady = false →
        (∀ (j : Nat) (x : Entry), j < i → st.schedule.playlist[j]? = some x → (st.segment x.segment).isReady = true) →
        refused .notReady [2#8, BitVec.ofNat 8 i]) ∧
      (someReady → ¬ heard → refused .notReady [3#8]) ∧
      (someReady → heard → ¬ ready → refused .notReady [4#8]) ∧
      (someReady → heard → ready → st.sup.estopTaken = some true → refused .notReady [5#8]) ∧
      (someReady → heard → ready → st.sup.estopTaken ≠ some true → st.ctl.clash = true → refused .notReady [6#8]))

/-- DISARM in ARMED, HELD and COMPLETE, and CLEAR-TRIP in TRIPPED with ESTOP inactive, enter IDLE: PERMIT inactive, the set
emptied, countdown, position and tables absent, I = N, an own GO or RESUME removed from CONTROL and a HOLD left, STATE
raised, the records kept. Elsewhere they are refused (R74, R95). -/
def Obligations.DisarmAndClearTripEnterIdle : Prop :=
  ∀ (s : State) (cfg : ConfigRecord), s.station.Serves →
    let st := s.station
    let control := if isGo st.link.controlSlot ∨ isResume st.link.controlSlot then none else st.link.controlSlot
    let idle : Station := { st with
      ctl := { st.ctl with mode := .idle, permit := false, countdown := none, reasons := 0 }
      schedule := { st.schedule with tables := none }
      engine := { st.engine with
        position := none, fadeEnd := none, regs := st.engine.regs.map fun x => { x with increment := nominal cfg } }
      link := { st.link with controlSlot := control }
      events := st.events.raise .state }
    let mayDisarm := st.ctl.mode = .armed ∨ st.ctl.mode = .held ∨ st.ctl.mode = .complete
    (st.config = some cfg → mayDisarm → exec .disarm s = .next (s.withStation (idle.answer 0x0C#8 .ok []))) ∧
    (¬ mayDisarm → exec .disarm s = .next (s.withStation (st.answer 0x0C#8 .badState []))) ∧
    (st.config = some cfg → st.ctl.mode = .tripped → st.sup.estopTaken ≠ some true →
      exec .clearTrip s = .next (s.withStation (idle.answer 0x12#8 .ok []))) ∧
    (st.config = some cfg → st.ctl.mode = .tripped → st.sup.estopTaken = some true →
      exec .clearTrip s = .next (s.withStation (st.answer 0x12#8 .notReady []))) ∧
    (st.ctl.mode ≠ .tripped → exec .clearTrip s = .next (s.withStation (st.answer 0x12#8 .badState [])))

/-- START in ARMED, with a legal position and every expected peer ready, places a GO with the fingerprint and the position
and changes nothing else; otherwise the first check that fails refuses it, NOT-READY with the lowest number not ready (R75,
R106). -/
def Obligations.StartDecides : Prop :=
  ∀ (s : State) (cfg : ConfigRecord) (position : Option (BitVec 32 × BitVec 48)), s.station.Serves →
    let st := s.station
    let p := position.getD (1#32, 0#48)
    let refused (code : ResultCode) (body : List Byte) :=
      exec (.start position) s = .next (s.withStation (st.answer 0x0D#8 code body))
    (st.ctl.mode ≠ .armed → refused .badState []) ∧
    (st.config = some cfg → st.ctl.mode = .armed → ∀ t : Tables, st.schedule.tables = some t →
      let isLegal := p.2.toNat < t.passLength ∧ (st.schedule.passes = 0 ∨ 1 ≤ p.1.toNat ∧ p.1.toNat ≤ st.schedule.passes)
      let isReady (k : StationNo) := ∃ e x, st.peer k = some e ∧ e.fresh = true ∧ e.state = .armed ∧ e.schedule = some x ∧
        x.fingerprint = t.fingerprint
      (¬ isLegal → refused .badArg []) ∧
      (∀ k : StationNo, isLegal → expects cfg k = true → ¬ isReady k →
        (∀ j : StationNo, j < k → expects cfg j = true → isReady j) → refused .notReady [BitVec.ofNat 8 k.val]) ∧
      (isLegal → (∀ k : StationNo, expects cfg k = true → isReady k) →
        let go : SlotFrame := { body := .go t.fingerprint p.1 p.2, latched := false }
        exec (.start position) s = .next (s.withStation
          (({ st with link := { st.link with controlSlot := some go } } : Station).answer 0x0D#8 .ok []))))

/-- RESUME in HELD without the END mark, with an empty latched set and every expected peer HELD, places a RESUME frame with
the fingerprint and the resume position, the position after the parked sample when the mark is WAIT; otherwise the first
check that fails refuses it, BAD-STATE in every other state, with a position and a configuration or without (R35, R85, R106). -/
def Obligations.ResumeDecides : Prop :=
  (∀ s : State, s.station.Serves → s.station.ctl.mode ≠ .held →
    exec .resumeRequest s = .next (s.withStation (s.station.answer 0x0F#8 .badState []))) ∧
  (∀ (s : State) (cfg : ConfigRecord) (p : Position) (t : Tables), s.station.Serves →
    let st := s.station
    st.config = some cfg → st.ctl.mode = .held → st.engine.position = some p → st.schedule.tables = some t →
    let refused (code : ResultCode) (body : List Byte) :=
      exec .resumeRequest s = .next (s.withStation (st.answer 0x0F#8 code body))
    let latched := st.ctl.reasons &&& 0b1111111000#10
    let isReady (k : StationNo) := ∃ e x, st.peer k = some e ∧ e.fresh = true ∧ e.state = .held ∧ e.schedule = some x ∧
      x.fingerprint = t.fingerprint
    let resumed : Nat × Nat :=
      if p.park = .wait then (if p.whole + 1 = t.passLength then ((p.pass + 1) % 2 ^ 32, 0) else (p.pass, p.whole + 1))
      else (p.pass, p.whole)
    (p.park = .finish → refused .badState []) ∧
    (p.park ≠ .finish → latched ≠ 0#10 → refused .notReady (leBytes 2 latched.toNat)) ∧
    (∀ k : StationNo, p.park ≠ .finish → latched = 0#10 → expects cfg k = true → ¬ isReady k →
      (∀ j : StationNo, j < k → expects cfg j = true → isReady j) → refused .notReady [BitVec.ofNat 8 k.val]) ∧
    (p.park ≠ .finish → latched = 0#10 → (∀ k : StationNo, expects cfg k = true → isReady k) →
      let frame : SlotFrame :=
        { body := .resume t.fingerprint (BitVec.ofNat 32 resumed.1) (BitVec.ofNat 48 resumed.2), latched := false }
      exec .resumeRequest s = .next (s.withStation
        (({ st with link := { st.link with controlSlot := some frame } } : Station).answer 0x0F#8 .ok []))))

/-- The HOLD request: in COUNTDOWN, RAMP-IN and PLAYING it is the taking of HOST, which starts a hold; in HELD it adds HOST;
in every other state it is refused (R69). ACKNOWLEDGE removes from the set the latched reasons that are named, and nothing else;
HOST, PEER and WAIT stay, and bits that name no reason are passed over; in UNCONFIGURED it is refused (R68, R199). -/
def Obligations.HoldAndAcknowledgeDecide : Prop :=
  (∀ (s : State) (cfg : ConfigRecord), s.station.Serves →
    let st := s.station
    let mayHold := st.ctl.mode = .countdown ∨ st.ctl.mode = .rampIn ∨ st.ctl.mode = .playing ∨ st.ctl.mode = .held
    (st.config = some cfg → mayHold →
      exec .holdRequest s = .next (s.withStation ((st.takeReason cfg .host (own cfg)).answer 0x0E#8 .ok []))) ∧
    (st.config = some cfg → st.ctl.mode = .held →
      exec .holdRequest s = .next (s.withStation
        (({ st with ctl := { st.ctl with reasons := st.ctl.reasons ||| 1#10 } } : Station).answer 0x0E#8 .ok []))) ∧
    (¬ mayHold → exec .holdRequest s = .next (s.withStation (st.answer 0x0E#8 .badState [])))) ∧
  (∀ (s : State) (reasons : BitVec 16), s.station.Serves →
    let st := s.station
    (st.ctl.mode = .unconfigured →
      exec (.acknowledge reasons) s = .next (s.withStation (st.answer 0x10#8 .badState []))) ∧
    (st.ctl.mode ≠ .unconfigured → ∃ set : ReasonSet,
      (∀ i : Fin 10, set.getLsbD i = (st.ctl.reasons.getLsbD i && !(decide (3 ≤ i.val) && reasons.getLsbD i))) ∧
      exec (.acknowledge reasons) s = .next (s.withStation
        (({ st with ctl := { st.ctl with reasons := set } } : Station).answer 0x10#8 .ok (leBytes 2 set.toNat)))))

/-- ABORT in a permit state is answered OK after the trip cause HOST has been taken; in every other state it is refused
(R94). -/
def Obligations.AbortDecides : Prop :=
  ∀ (s : State) (cfg : ConfigRecord), s.station.Serves →
    let st := s.station
    (st.config = some cfg → st.ctl.mode.isPermit = true →
      exec .abort s = .next (s.withStation ((st.takeTrip cfg .host (own cfg)).answer 0x11#8 .ok [])) ∧
      (st.takeTrip cfg .host (own cfg)).ctl.mode = .tripped) ∧
    (st.ctl.mode.isPermit = false → exec .abort s = .next (s.withStation (st.answer 0x11#8 .badState [])))

/-! ### Requests of the Replay Engine, the Drive Line Interface, the Event Set and the Host Port -/

/-- SET-LEVEL sets the target and answers with it and the current G, which it leaves; in UNCONFIGURED it is refused (R46).
SIDE-SEND adds its word at the tail of a queue of fewer than 4 words and answers with their number, and is refused FULL
otherwise (R145); SIDE-READ answers with the side reply, the new mark, the words queued, whether a word awaits its reply and the
loss count, and clears the new mark alone (R149). That the reply of UNCONFIGURED has these five fields too, with no word
awaiting its reply, is the model's choice (DESIGN CHOICE, log entry 36). -/
def Obligations.SetLevelAndSideRequestsDecide : Prop :=
  (∀ (s : State) (target : BitVec 16), s.station.Serves →
    let st := s.station
    (st.ctl.mode = .unconfigured →
      exec (.setLevel target) s = .next (s.withStation (st.answer 0x13#8 .badState []))) ∧
    (∀ r : EngineRegs, st.ctl.mode ≠ .unconfigured → st.engine.regs = some r →
      exec (.setLevel target) s = .next (s.withStation
        (({ st with engine := { st.engine with regs := some { r with target := target.toNat } } } : Station).answer 0x13#8 .ok
          (leBytes 2 target.toNat ++ leBytes 2 r.level))))) ∧
  (∀ (s : State) (word : BitVec 32), s.station.Serves →
    let st := s.station
    let n := st.drive.sideQueue.length
    (st.ctl.mode = .unconfigured → exec (.sideSend word) s = .next (s.withStation (st.answer 0x14#8 .badState []))) ∧
    (st.ctl.mode ≠ .unconfigured → 4 ≤ n → exec (.sideSend word) s = .next (s.withStation (st.answer 0x14#8 .full []))) ∧
    (st.ctl.mode ≠ .unconfigured → n < 4 →
      exec (.sideSend word) s = .next (s.withStation
        (({ st with drive := { st.drive with sideQueue := st.drive.sideQueue ++ [word] } } : Station).answer 0x14#8 .ok
          [BitVec.ofNat 8 (n + 1)]))) ∧
    exec .sideRead s = .next (s.withStation
      (({ st with drive := { st.drive with newMark := false } } : Station).answer 0x15#8 .ok
        (leOptional 4 (st.drive.sideReply.map (·.toNat)) ++
          [boolByte st.drive.newMark, BitVec.ofNat 8 n, boolByte (decide (st.drive.previousKind = .side)),
            BitVec.ofNat 8 st.drive.sideLoss]))))

/-- EVENTS-CLEAR removes exactly the named events from the latched set, ATTENTION following, and answers with what is left
(R183, R184); REPORT-RATE sets n, zeroes the timer, and clears a pending report when n is 0 (R185). Both are refused in
UNCONFIGURED. The mark reportTaken that REPORT-RATE clears is the model's own (log entry 8). -/
def Obligations.EventsClearAndReportRate : Prop :=
  ∀ s : State, s.station.Serves →
    let st := s.station
    (∀ events : BitVec 16,
      (st.ctl.mode = .unconfigured →
        exec (.eventsClear events) s = .next (s.withStation (st.answer 0x19#8 .badState []))) ∧
      (st.ctl.mode ≠ .unconfigured → ∃ left : EventBits,
        (∀ i : Fin 15, left.getLsbD i = (st.events.latched.getLsbD i && !events.getLsbD i)) ∧
        exec (.eventsClear events) s = .next (s.withStation (({ st with events :=
          { latched := left, mask := st.events.mask, attention := attentionOf left st.events.mask } } : Station).answer
            0x19#8 .ok (leBytes 2 left.toNat))))) ∧
    (∀ n : BitVec 8,
      (st.ctl.mode = .unconfigured → exec (.reportRate n) s = .next (s.withStation (st.answer 0x1A#8 .badState []))) ∧
      (st.ctl.mode ≠ .unconfigured →
        exec (.reportRate n) s = .next (s.withStation (({ st with port := { st.port with
          reportInterval := some n.toNat, reportTimer := some 0, reportTaken := false
          reportPending := if n = 0#8 then false else st.port.reportPending } } : Station).answer 0x1A#8 .ok []))))

/-- STATION-RESET places its reply OK and changes nothing else. When the transmitter has sent that reply, and not before, the
reset takes effect: power-on values, but for the READY and BAD segments, the store and the start kind SOFT (R19, R179, R194).
The row STATION_RESET_EFFECT is that same event, and has no effect while that reply is not being sent (DESIGN CHOICE, log
entry 25). -/
def Obligations.StationResetWaitsForItsReply : Prop :=
  (∀ s : State, s.station.Serves →
    exec .stationReset s = .next (s.withStation (s.station.answer 0x1B#8 .ok []))) ∧
  (∀ (s : State) (body : List Byte), s.station.running = true →
    s.station.port.sending = some { kind := 0x1B#8, code := .ok, body := body } →
    let after : Station := { Station.reset with
      power := s.station.power, resetLine := s.station.resetLine, estopLine := s.station.estopLine, store := s.station.store
      startKind := .soft
      segments := s.station.segments.map fun x => match x with
        | .empty => .empty
        | .loading .. => .empty
        | .ready b => .ready b
        | .bad b => .bad b }
    exec .transmitterFrameSent s = .next (s.withStation after) ∧
    exec .stationResetEffect s = .next (s.withStation after)) ∧
  (∀ s : State, (∀ body, s.station.port.sending ≠ some { kind := 0x1B#8, code := .ok, body := body }) →
    exec .stationResetEffect s = .next s)

/-! ### The host port -/

/-- A request that arrives while the reply place is filled, or while the OK of STATION-RESET is being sent, is not served: it
joins the two receive buffers, or is dropped with its kind on the busy queue of eight, or is dropped and counted (R175, R176,
R179; log entries 10 and 11). -/
def Obligations.RequestsWaitTheirTurn : Prop :=
  ∀ (s : State) (r : Request), s.station.running = true →
    let st := s.station
    let port := st.port
    (port.sending ≠ none ∧ port.reply ≠ none) ∨ (∃ body, port.sending = some { kind := 0x1B#8, code := .ok, body := body }) →
    (port.buffers.length < 2 →
      exec (commandOf r) s = .next (s.withStation ({ st with port := { port with buffers := port.buffers ++ [frameOf r] } }))) ∧
    (2 ≤ port.buffers.length → port.busy.length < 8 →
      exec (commandOf r) s = .next (s.withStation ({ st with port := { port with busy := port.busy ++ [kindOf r] } }))) ∧
    (2 ≤ port.buffers.length → 8 ≤ port.busy.length →
      exec (commandOf r) s =
        .next (s.withStation ({ st with port := { port with overrun := min 65535 (port.overrun + 1) } })))

/-- A frame served that fails a check of R176 is answered with the first failing check's code alone, a CONFIGURE of the wrong
size with field index 0 after it, and changes nothing else (R176, R177, R188). -/
def Obligations.RefusedFrameIsAnswered : Prop :=
  ∀ s : State, s.station.Serves → s.station.PortOk →
    let refused (f : HostFrame) (kind : Byte) (code : ResultCode) (body : List Byte) :=
      exec (.hostFrameRefused f) s = .next (s.withStation (s.station.answer kind code body))
    (∀ kind, refused (.overLong kind) kind .length []) ∧
    (∀ kind payload crc, crc ≠ hostCrc kind payload → refused (.whole kind payload crc) kind .badCheck []) ∧
    (∀ kind payload, kind.toNat = 0 ∨ 27 < kind.toNat →
      refused (.whole kind payload (hostCrc kind payload)) kind .unknown []) ∧
    (∀ kind payload, sizeAllowed kind payload.length = some false →
      refused (.whole kind payload (hostCrc kind payload)) kind .badArg (if kind = 0x02#8 then [0#8] else []))

/-- The bytes of a host frame, taken one after the other by a receiver that is HUNTING, are that frame, handed to the receive
buffers at its last byte: whole frames with a length of 0..112, and over-long ones, whose length byte is any of 113..255, at
their kind byte (R172, R173, R175). -/
def Obligations.HostBytesMakeAFrame : Prop :=
  ∀ st : Station, st.running = true → st.port.receiver = .hunting → st.port.partialTimer = none →
    let seen : Station := { st with port := { st.port with byteSeen := true } }
    (∀ f : HostFrame, payloadFits f = true →
      core.run (wireBytes f).length { pending := (wireBytes f).map .hostByte, station := st } =
        .next { pending := [], station := seen.frameCompletes f }) ∧
    (∀ length kind : Byte, 112 < length.toNat →
      core.run 3 { pending := [.hostByte 0xA5#8, .hostByte length, .hostByte kind], station := st } =
        .next { pending := [], station := seen.frameCompletes (.overLong kind) })

/-- HUNTING, a byte other than $A5 is discarded and $A5 begins a frame with its timer at 0 (R172). A frame being collected is
discarded when its timer reaches 64 (R174). With n ≠ 0 a report falls due when the timer would reach n × 64: the timer becomes 0
and the report is pending, or goes out at once if the transmitter is IDLE (R178, R185). An UPDATE makes both counts: the
partial-frame timer rises unless a byte has come since the last update, the report timer rises with n ≠ 0 and stands with n = 0.
That a REPORT falling due in an UPDATE shows the state after the drive line's stages of that update is DEDUCED (log entry 5).
The marks byteSeen and reportTaken, and the rows that take an end by themselves, are the model's (log entry 8). -/
def Obligations.HostPortTimers : Prop :=
  (∀ s : State, s.station.running = true →
    let st := s.station
    let port := st.port
    (∀ b : Byte, port.receiver = .hunting →
      (b ≠ 0xA5#8 → exec (.hostByte b) s = .next (s.withStation ({ st with port := { port with byteSeen := true } }))) ∧
      (b = 0xA5#8 → exec (.hostByte b) s = .next (s.withStation ({ st with port :=
        { port with receiver := .collecting [b], partialTimer := some 0, byteSeen := true } })))) ∧
    (∀ bytes, port.receiver = .collecting bytes → port.partialTimer = some 63 → port.byteSeen = false →
      exec .partialFrameTimeout s = .next (s.withStation ({ st with port :=
        { port with receiver := .hunting, partialTimer := none } })) ∧
      (st.config = none → ∀ inA inB : BitVec 48,
        exec (.update inA inB) s = .next (s.withStation ({ st with port :=
          { port with receiver := .hunting, partialTimer := none, byteSeen := false } })))) ∧
    (∀ (cfg : ConfigRecord) (n : Nat), st.config = some cfg → port.reportInterval = some n → n ≠ 0 →
      port.reportTimer = some (n * 64 - 1) → port.reportTaken = false →
      (port.sending ≠ none →
        exec .reportDue s = .next (s.withStation ({ st with port :=
          { port with reportTimer := some 0, reportPending := true, reportTaken := true } }))) ∧
      (port.sending = none → port.reply = none → port.busy = [] →
        exec .reportDue s = .next (s.withStation ({ st with port :=
          { port with
            reportTimer := some 0, reportPending := false, reportTaken := true
            sending := some { kind := 0x40#8, code := .ok, body := st.statusBody } } }))))) ∧
  (∀ (s : State) (cfg : ConfigRecord) (inA inB : BitVec 48), s.station.RunsIn cfg →
    let port := s.station.port
    let expires := port.receiver ≠ .hunting ∧ port.byteSeen = false ∧ ∃ n, port.partialTimer = some n ∧ 64 ≤ n + 1
    ∃ t : State, exec (.update inA inB) s = .next t ∧
      let now := t.station.port
      now.byteSeen = false ∧ now.reportTaken = false ∧
      (expires → now.receiver = .hunting ∧ now.partialTimer = none) ∧
      (¬ expires → now.receiver = port.receiver ∧
        now.partialTimer = (if port.byteSeen then port.partialTimer else port.partialTimer.map (· + 1))) ∧
      (port.reportTaken = true → now.reportTimer = port.reportTimer ∧ now.reportPending = port.reportPending ∧
        now.sending = port.sending) ∧
      (∀ n k : Nat, port.reportTaken = false → port.reportInterval = some n → port.reportTimer = some k →
        (n = 0 → now.reportTimer = some k ∧ now.reportPending = port.reportPending ∧ now.sending = port.sending) ∧
        (k + 1 < n * 64 → now.reportTimer = some (k + 1) ∧ now.reportPending = port.reportPending ∧
          now.sending = port.sending) ∧
        (n ≠ 0 → n * 64 ≤ k + 1 → now.reportTimer = some 0 ∧
          (port.sending ≠ none → now.reportPending = true ∧ now.sending = port.sending) ∧
          (port.sending = none → port.reply = none → port.busy = [] → now.reportPending = false ∧
            now.sending = some { kind := 0x40#8, code := .ok, body := t.station.statusBody }))))

/-- When a frame other than the reset's OK has been sent, the transmitter takes the reply if there is one, then the head of
the busy queue, then a pending report, and is IDLE if there is none (R176, R178). That a reply taken lets the next buffered
frame be served within this same command is log entry 10 (DESIGN CHOICE), and that none is served beside the reset's OK is log
entry 11 (DEDUCED from R179). -/
def Obligations.TransmitterTakesInOrder : Prop :=
  ∀ (s : State) (sent : HostReply), s.station.running = true → s.station.PortOk → s.station.port.sending = some sent →
    ¬ (sent.kind = 0x1B#8 ∧ sent.code = .ok) →
    let st := s.station
    let port := st.port
    (∀ r : HostReply, port.reply = some r → port.buffers = [] →
      exec .transmitterFrameSent s = .next (s.withStation ({ st with port := { port with reply := none, sending := some r } }))) ∧
    (∀ (r : HostReply) (f : HostFrame) (rest : List HostFrame), port.reply = some r → port.buffers = f :: rest →
      (r.kind = 0x1B#8 ∧ r.code = .ok →
        exec .transmitterFrameSent s =
          .next (s.withStation ({ st with port := { port with reply := none, sending := some r } }))) ∧
      (¬ (r.kind = 0x1B#8 ∧ r.code = .ok) →
        exec .transmitterFrameSent s = .next (s.withStation
          (({ st with port := { port with reply := none, sending := some r, buffers := rest } } : Station).serve f)))) ∧
    (∀ (kind : Byte) (rest : List Byte), port.reply = none → port.busy = kind :: rest →
      exec .transmitterFrameSent s = .next (s.withStation ({ st with port :=
        { port with busy := rest, sending := some { kind := kind, code := .busy, body := [] } } }))) ∧
    (port.reply = none → port.busy = [] → port.reportPending = true →
      exec .transmitterFrameSent s = .next (s.withStation ({ st with port :=
        { port with reportPending := false, sending := some { kind := 0x40#8, code := .ok, body := st.statusBody } } }))) ∧
    (port.reply = none → port.busy = [] → port.reportPending = false →
      exec .transmitterFrameSent s = .next (s.withStation ({ st with port := { port with sending := none } })))

/-! ### The update -/

/-- An update that begins with no reported change of state and no beat instant to take: the position advances in a moving state;
G moves toward its target; g rises in RAMP-IN, falls in RAMP-OUT and ENDING and stands otherwise; c1 is O + p2 clamped in a
computing state and O otherwise; c approaches it from c_prev by at most Rmax; a clamped update is counted and raises CLAMP, a
rate-limited one is counted and raises RATE, and one that is neither raises neither; c is offered with the c_prev before it. In
TRIPPED, c = c_prev = O. If the update's feedback or silence trips the station, O stands in place of c (R38 to R59). The
countdown decreases by 1 (R78), and the end of a fade is reported when g has reached its end (R49, R50). What the advance is,
ScheduleSteps says; an update that begins otherwise is this one after the change or the beat instant it begins with, as
ReportsAreTaken and BeatInstantWork say. The order of the parts inside the update is DEDUCED (log entry 5), a park is taken
inside it (DEDUCED, log entry 9), and the Peer Table's tick may have been taken ahead (DESIGN CHOICE, log entry 7). -/
def Obligations.UpdateComputesTheCommand : Prop :=
  ∀ (s : State) (cfg : ConfigRecord) (r : EngineRegs) (inA inB : BitVec 48), s.station.RunsIn cfg →
    s.station.engine.regs = some r → s.station.engine.fadeEnd = none → s.station.peers.beatDue = false →
    ¬ (s.station.ctl.mode = .countdown ∧ s.station.ctl.countdown = some 0) →
    let m := s.station.ctl.mode
    let begun := (s.station.tickPeers cfg).countDown
    let moved := if m.isMoving then begun.advance cfg else begun
    let level := moveLevel r.level r.target cfg.levelStep.toNat
    let fade := if m = .rampIn then min 32768 (r.fade + fadeStep cfg)
      else if m.isFadingOut then r.fade - fadeStep cfg else r.fade
    let wanted := if m.isComputing then offset cfg + scaleFade (scaleLevel moved.interpolated level) fade else offset cfg
    let c1 := if m.isComputing then max (cMin cfg) (min (cMax cfg) wanted) else offset cfg
    let rmax : Int := cfg.rateLimit.toNat
    let c := if rmax < c1 - r.commandPrev then r.commandPrev + rmax
      else if c1 - r.commandPrev < -rmax then r.commandPrev - rmax else c1
    let isLatched (v : State) (e : Event) : Bool := v.station.events.latched.getLsbD e.code
    legalRecord cfg = true →
    ∃ (t : State) (x : EngineRegs), exec (.update inA inB) s = .next t ∧ t.pending = s.pending ∧
      t.station.engine.regs = some x ∧ x.level = level ∧ x.target = r.target ∧
      t.station.engine.position = moved.engine.position ∧
      t.station.config = s.station.config ∧ t.station.store = s.station.store ∧ t.station.segments = s.station.segments ∧
      t.station.cutLoadings = s.station.cutLoadings ∧
      t.station.schedule = s.station.schedule ∧
      (m = .countdown → t.station.ctl.mode = .countdown → t.station.ctl.countdown = s.station.ctl.countdown.map (· - 1)) ∧
      t.station.engine.fadeEnd =
        (if m = .rampIn ∧ t.station.ctl.mode = .rampIn ∧ fade = 32768 then some .rampIn
        else if m.isFadingOut = true ∧ t.station.ctl.mode.isFadingOut = true ∧ fade = 0 then some .rampOut else none) ∧
      (m ≠ .tripped →
        t.station.engine.clampCount =
          (if c1 = wanted then s.station.engine.clampCount else min 4294967295 (s.station.engine.clampCount + 1)) ∧
        t.station.engine.rateCount =
          (if c = c1 then s.station.engine.rateCount else min 4294967295 (s.station.engine.rateCount + 1)) ∧
        isLatched t .clamp = (isLatched s .clamp || decide (c1 ≠ wanted)) ∧
        isLatched t .rate = (isLatched s .rate || decide (c ≠ c1)) ∧
        (t.station.ctl.mode ≠ .tripped → x.fade = fade ∧ x.command = c ∧ x.commandPrev = c ∧
          t.station.engine.offered = some { command := c, previous := r.commandPrev })) ∧
      (t.station.ctl.mode = .tripped → x.command = offset cfg ∧ x.commandPrev = offset cfg ∧
        t.station.engine.offered = some { command := offset cfg, previous := offset cfg } ∧ (m ≠ .tripped → x.fade = 0)) ∧
      (m = .tripped → x.fade = r.fade ∧ t.station.engine.clampCount = s.station.engine.clampCount ∧
        t.station.engine.rateCount = s.station.engine.rateCount ∧
        isLatched t .clamp = isLatched s .clamp ∧ isLatched t .rate = isLatched s .rate)

/-- Slot A sends c if the last sent command is absent or differs, the refresh counter reaches its interval, or a side or AUTO
word went before; otherwise it makes no transfer (R142). Slot B sends the AUTO word, or else the oldest side word, and otherwise
makes no transfer (R144). The bits that come in answer the transfer before (R146; DEDUCED against the last sentence of R202, log
entry 34). At an offer the silence counter rises, the band follows the offer and puts its word in the AUTO slot, slot A and slot
B open, and a counter at 48 is reported, in that order (R140, R150 to R152); an update makes these stages after the engine's
steps and before the port's timers (DEDUCED, log entry 5). -/
def Obligations.DriveSlotsSend : Prop :=
  (∀ c : Int, commandDatagram c = { isCommand := true, word := BitVec.ofInt 16 c ++ ~~~ BitVec.ofInt 16 c }) ∧
  (∀ (st : Station) (cfg : ConfigRecord) (c : Int) (bits : BitVec 48),
    let n := st.drive.refresh.getD 0 + 1
    let sends := st.drive.lastSent ≠ some c ∨ n = cfg.refreshInterval.toNat ∨ st.drive.previousKind = .side ∨
      st.drive.previousKind = .auto
    let answeredA := ({ st with drive := { st.drive with
      refresh := some 0, lastSent := some c, previousKind := .command, outA := some (commandDatagram c) } } :
        Station).takeResponse cfg st.drive.previousKind bits
    let after := (st.slotA cfg c bits).drive
    let afterB := (st.slotB cfg bits).drive
    (sends → st.slotA cfg c bits = { answeredA with drive := { answeredA.drive with answered := some c } } ∧
      after.outA = some (commandDatagram c) ∧ after.refresh = some 0 ∧ after.lastSent = some c ∧
      after.previousKind = .command ∧ after.answered = some c ∧ after.sideQueue = st.drive.sideQueue ∧
      after.autoSlot = st.drive.autoSlot) ∧
    (¬ sends → st.slotA cfg c bits = { st with drive := { st.drive with refresh := some n, outA := none } }) ∧
    (∀ word, st.drive.autoSlot = some word →
      st.slotB cfg bits = ({ st with drive := { st.drive with
        autoSlot := none, previousKind := .auto, outB := some { isCommand := false, word := word } } } : Station).takeResponse
          cfg st.drive.previousKind bits ∧
      afterB.outB = some { isCommand := false, word := word } ∧ afterB.autoSlot = none ∧ afterB.previousKind = .auto ∧
      afterB.sideQueue = st.drive.sideQueue) ∧
    (∀ word rest, st.drive.autoSlot = none → st.drive.sideQueue = word :: rest →
      st.slotB cfg bits = ({ st with drive := { st.drive with
        sideQueue := rest, previousKind := .side, outB := some { isCommand := false, word := word } } } : Station).takeResponse
          cfg st.drive.previousKind bits ∧
      afterB.outB = some { isCommand := false, word := word } ∧ afterB.sideQueue = rest ∧ afterB.previousKind = .side) ∧
    (st.drive.autoSlot = none → st.drive.sideQueue = [] →
      st.slotB cfg bits = { st with drive := { st.drive with outB := none } })) ∧
  (∀ (st : Station) (cfg : ConfigRecord) (inA inB : BitVec 48),
    (st.engine.offered = none → st.driveUpdate cfg inA inB = st) ∧
    (∀ o : Offer, st.engine.offered = some o →
      let r := (o.command - o.previous).natAbs
      let counted : Station := { st with drive := { st.drive with silence := st.drive.silence.map fun n => min 48 (n + 1) } }
      let inBand (b : Band) (word : BitVec 32) : Station :=
        { counted with drive := { counted.drive with band := some b, autoSlot := some word } }
      let rises := cfg.gainEnable = 1#8 ∧ st.drive.band = some .low ∧ cfg.threshold.toNat ≤ r
      let falls := cfg.gainEnable = 1#8 ∧ st.drive.band = some .high ∧ r + cfg.hysteresis.toNat < cfg.threshold.toNat
      let finished (x : Station) : Station :=
        let y := (x.slotA cfg o.command inA).slotB cfg inB
        if y.drive.silence = some 48 then
          ({ y with events := y.events.raise .driveSilent } : Station).takeTrip cfg .driveSilent (own cfg)
        else y
      (rises → st.driveUpdate cfg inA inB = finished (inBand .high cfg.highWord)) ∧
      (falls → st.driveUpdate cfg inA inB = finished (inBand .low cfg.lowWord)) ∧
      (¬ rises → ¬ falls → st.driveUpdate cfg inA inB = finished counted))) ∧
  (∀ (s : State) (cfg : ConfigRecord) (inA inB : BitVec 48), s.station.RunsIn cfg → s.station.engine.fadeEnd = none →
    s.station.peers.beatDue = false → ¬ (s.station.ctl.mode = .countdown ∧ s.station.ctl.countdown = some 0) →
    exec (.update inA inB) s = .next (s.withStation
      ((((((s.station.tickPeers cfg).countDown).replayUpdate cfg).driveUpdate cfg inA inB).partialTick).reportTick)))

/-- A valid response to a COMMAND is kept as the latest feedback, the own share follows it, silence returns to 0, and it is
judged in four checks, each on the state as it then stands (R118, R146, R147, R158). A status in the trip mask trips a permit
state with that status kept, and raises TRIP in IDLE (R159); one in the hold mask alone is the taking of AMP in the run group
(R160). In the run group the windows and the tracking error are kept, and WINDOW and TRACK are reported where R162 and R164 say
so; outside it no window is judged and the tracking counter becomes 0 (R162 to R165). A valid response to a side word is the
side reply, with its mark and SIDE-DONE, an invalid one counts as lost; a valid one to an AUTO word returns silence to 0 alone;
an invalid response to a COMMAND or an AUTO word, and bits that answer nothing, change nothing (R146, R148, R202). -/
def Obligations.FeedbackIsJudged : Prop :=
  (∀ bits : BitVec 48, responseValid bits = decide (crc8 [bits.extractLsb' 40 8, bits.extractLsb' 32 8, bits.extractLsb' 24 8,
    bits.extractLsb' 16 8, bits.extractLsb' 8 8] = bits.extractLsb' 0 8)) ∧
  (∀ (st : Station) (cfg : ConfigRecord) (bits : BitVec 48),
    st.takeResponse cfg .none bits = st ∧
    (responseValid bits = false →
      st.takeResponse cfg .command bits = st ∧ st.takeResponse cfg .auto bits = st ∧
      st.takeResponse cfg .side bits = { st with drive := { st.drive with sideLoss := min 255 (st.drive.sideLoss + 1) } }) ∧
    (responseValid bits = true →
      st.takeResponse cfg .auto bits = { st with drive := { st.drive with silence := some 0 } } ∧
      st.takeResponse cfg .side bits = { st with
        drive := { st.drive with silence := some 0, sideReply := some (bits.extractLsb' 16 32), newMark := true }
        events := st.events.raise .sideDone })) ∧
  (∀ (st : Station) (cfg : ConfigRecord) (bits : BitVec 48) (answered : Int), st.drive.answered = some answered →
    responseValid bits = true →
    let force := (bits.extractLsb' 32 16).toInt
    let displacement := (bits.extractLsb' 16 16).toInt
    let status := bits.extractLsb' 8 8
    let error := answered - (if cfg.role = 1#8 then displacement else force)
    let after := st.takeResponse cfg .command bits
    let forceAt := windowOf cfg.forceMin.toInt cfg.forceMax.toInt force
    let dispAt := windowOf cfg.dispMin.toInt cfg.dispMax.toInt displacement
    let kept : Station := { st with
      drive := { st.drive with silence := some 0, force := some force, displacement := some displacement, ampStatus := some status }
      peers := { st.peers with ownShare := roundDiv (cfg.weight.toInt * force) 16384 } }
    let unjudged (x : Station) : Station :=
      { x with sup := { x.sup with lastApplied := some false, lastError := some error, trackCount := 0 } }
    (status &&& cfg.tripMask ≠ 0#8 →
      (st.ctl.mode.isPermit = true → after = unjudged (({ kept with sup := { st.sup with trippingStatus := some status } } :
        Station).takeTrip cfg .amp (own cfg)) ∧ after.ctl.mode = .tripped) ∧
      (st.ctl.mode = .idle → after = unjudged { kept with events := st.events.raise .trip }) ∧
      (st.ctl.mode.isPermit = false → st.ctl.mode ≠ .idle → after = unjudged kept)) ∧
    (status &&& cfg.tripMask = 0#8 → st.ctl.mode.inRunGroup = false → after = unjudged kept) ∧
    (status &&& cfg.tripMask = 0#8 → st.ctl.mode.inRunGroup = true →
      let held := if status &&& cfg.holdMask = 0#8 then kept else kept.takeReason cfg .amp (own cfg)
      let windowed : Station := { held with
        sup := { held.sup with forceWindow := some forceAt, dispWindow := some dispAt, lastApplied := some true } }
      let judged := if forceAt = .inside ∧ dispAt = .inside then windowed else windowed.takeReason cfg .window (own cfg)
      let counted (n : Nat) : Station := { judged with sup := { judged.sup with lastError := some error, trackCount := n } }
      (error.natAbs ≤ cfg.trackingLimit.toNat → after = counted 0) ∧
      (cfg.trackingLimit.toNat < error.natAbs → st.sup.trackCount + 1 < cfg.trackingCount.toNat →
        after = counted (st.sup.trackCount + 1)) ∧
      (cfg.trackingLimit.toNat < error.natAbs → cfg.trackingCount.toNat ≤ st.sup.trackCount + 1 →
        after = (counted 0).takeReason cfg .track (own cfg) ∧ after.ctl.reasons.getLsbD 4 = true) ∧
      (status &&& cfg.holdMask ≠ 0#8 → after.ctl.reasons.getLsbD 5 = true) ∧
      (forceAt ≠ .inside ∨ dispAt ≠ .inside → after.ctl.reasons.getLsbD 3 = true) ∧
      (status &&& cfg.holdMask = 0#8 → forceAt = .inside → dispAt = .inside → error.natAbs ≤ cfg.trackingLimit.toNat →
        after.ctl = st.ctl ∧ after.events = st.events ∧ after.link = st.link)))

/-- The reports of the counters and of the changes of state, each taken by itself: TRACK at the count M in the run group
(R164), DRIVE-SILENT at 48 (R152), RAMP-IN at a countdown of 0 (R78), PLAYING at the end of a ramp-in (R49), and HELD or
COMPLETE at the end of a ramp-out (R50). An update that begins with such a change of state is the update of the state entered
(DEDUCED from R39, log entry 6). That these ends have rows of their own, TRACK's at a count one below M, is the model's choice
(DESIGN CHOICE, log entry 8). -/
def Obligations.ReportsAreTaken : Prop :=
  ∀ (s : State) (cfg : ConfigRecord), s.station.RunsIn cfg →
    let st := s.station
    let entered (m : Mode) (regs : Option EngineRegs) : State := (s.withStation ({ st with
      ctl := { st.ctl with mode := m, permit := true, countdown := none }
      engine := { st.engine with fadeEnd := none, regs := regs }
      events := st.events.raise .state }))
    let stood := st.engine.regs.map fun x => { x with increment := nominal cfg }
    let begins (t : State) := ∀ inA inB : BitVec 48, exec (.update inA inB) s = exec (.update inA inB) t
    (st.ctl.mode.inRunGroup = true → st.sup.trackCount + 1 = cfg.trackingCount.toNat →
      exec .trackCountReached s = .next (s.withStation
        (({ st with sup := { st.sup with trackCount := 0 } } : Station).takeReason cfg .track (own cfg)))) ∧
    (st.drive.silence = some 48 →
      exec .driveSilence s = .next (s.withStation
        (({ st with events := st.events.raise .driveSilent } : Station).takeTrip cfg .driveSilent (own cfg)))) ∧
    (st.ctl.mode = .countdown → st.ctl.countdown = some 0 →
      exec .countdownExpiry s = .next (entered .rampIn st.engine.regs) ∧ begins (entered .rampIn st.engine.regs)) ∧
    (st.ctl.mode = .rampIn → st.engine.fadeEnd = some .rampIn →
      exec .endOfRampIn s = .next (entered .playing st.engine.regs) ∧ begins (entered .playing st.engine.regs)) ∧
    (st.ctl.mode = .rampOutMoving ∨ st.ctl.mode = .rampOutParked → st.engine.fadeEnd = some .rampOut →
      exec .endOfRampOut s = .next (entered .held stood) ∧ begins (entered .held stood)) ∧
    (st.ctl.mode = .ending → st.engine.fadeEnd = some .rampOut →
      exec .endOfRampOut s = .next (entered .complete stood) ∧ begins (entered .complete stood))

/-! ### The Peer Table -/

/-- The tick at which a FRESH entry's age passes the silence limit makes it STALE and raises PEER-LOST, with every entry aged
and the beat counter counted (R100, R103). An update ages the entries and counts the beat counter in the same way, or, where its
tick has been taken ahead, leaves both and clears the mark. That the tick may be taken ahead by a row of its own is the model's
choice (DESIGN CHOICE, log entries 7 and 8). -/
def Obligations.PeerTurnsStale : Prop :=
  (∀ (s : State) (cfg : ConfigRecord) (k : StationNo) (e : PeerEntry), s.station.RunsIn cfg →
    let st := s.station
    let limit := 4 * cfg.beatInterval.toNat
    st.peer k = some e → e.fresh = true → e.age < 65535 → limit < e.age + 1 → st.peers.tickTaken = false →
    let entries := st.peers.entries.map fun x => x.map fun y => { y with
      age := min 65535 (y.age + 1), fresh := y.fresh && decide (min 65535 (y.age + 1) ≤ limit)
      lastControl := y.lastControl.map fun l => { l with age := min 65535 (l.age + 1) } }
    let counter := st.peers.beatCounter.map fun n => if cfg.beatInterval.toNat ≤ n + 1 then 0 else n + 1
    exec (.peerStale k) s = .next (s.withStation ({ st with
      peers := { st.peers with
        entries := entries, beatCounter := counter, tickTaken := true
        beatDue := st.peers.beatDue || decide (counter = some 0) }
      events := st.events.raise .peerLost })) ∧
    ({ st with peers := { st.peers with entries := entries } } : Station).peer k = some { e with
      age := e.age + 1, fresh := false, lastControl := e.lastControl.map fun l => { l with age := min 65535 (l.age + 1) } }) ∧
  (∀ (s : State) (cfg : ConfigRecord) (inA inB : BitVec 48), s.station.RunsIn cfg →
    let peers := s.station.peers
    let limit := 4 * cfg.beatInterval.toNat
    let counter := peers.beatCounter.map fun n => if cfg.beatInterval.toNat ≤ n + 1 then 0 else n + 1
    ∃ t : State, exec (.update inA inB) s = .next t ∧ t.station.peers.tickTaken = false ∧
      (peers.tickTaken = true → t.station.peers.entries = peers.entries ∧ t.station.peers.beatCounter = peers.beatCounter ∧
        t.station.peers.beatDue = false) ∧
      (peers.tickTaken = false →
        (∀ k : StationNo, t.station.peer k = (s.station.peer k).map fun y => { y with
          age := min 65535 (y.age + 1), fresh := y.fresh && decide (min 65535 (y.age + 1) ≤ limit)
          lastControl := y.lastControl.map fun l => { l with age := min 65535 (l.age + 1) } }) ∧
        t.station.peers.beatCounter = counter ∧ t.station.peers.beatDue = decide (counter = some 0) ∧
        (∀ (k : StationNo) (e : PeerEntry), s.station.peer k = some e → e.fresh = true → limit < min 65535 (e.age + 1) →
          t.station.events.latched.getLsbD 9 = true)))

/-- The work of a beat instant: outside the run group I = N is written and the BEAT slot filled; in the run group the
consistency check, the trim and the group load check are made in turn, and the slot is filled (R104, R105, R117). That
BEAT_INSTANT is a row of its own, which may come before its UPDATE and then takes that update's tick, that the mark beatDue
keeps a beat instant for it, and that an UPDATE takes one still to be taken first, is the model's choice (DESIGN CHOICE, log
entry 7). -/
def Obligations.BeatInstantWork : Prop :=
  (∀ (s : State) (cfg : ConfigRecord), s.station.RunsIn cfg → s.station.peers.beatDue = true →
    let st : Station := { s.station with peers := { s.station.peers with beatDue := false } }
    let checked := ((st.consistencyCheck cfg).trimPart cfg).groupCheck cfg
    (st.ctl.mode.inRunGroup = false →
      exec .beatInstant s = .next (s.withStation ({ st with
        engine := { st.engine with regs := st.engine.regs.map fun x => { x with increment := nominal cfg } }
        link := { st.link with beatSlot := true } }))) ∧
    (st.ctl.mode.inRunGroup = true →
      exec .beatInstant s = .next (s.withStation ({ checked with link := { checked.link with beatSlot := true } }))) ∧
    (s.station.engine.fadeEnd = none → ¬ (s.station.ctl.mode = .countdown ∧ s.station.ctl.countdown = some 0) →
      ∃ t : State, exec .beatInstant s = .next t ∧ t.station.peers.beatDue = false ∧
        ∀ inA inB : BitVec 48, exec (.update inA inB) s = exec (.update inA inB) t)) ∧
  (∀ (s : State) (cfg : ConfigRecord), s.station.RunsIn cfg → s.station.peers.beatDue = false →
    s.station.beatNext cfg = true →
    exec .beatInstant s = .next (s.withStation ((s.station.tickAhead cfg).beatWork cfg)))

/-- The three checks of a beat instant. An expected peer without an entry or with a STALE one fails, and so does a FRESH one
that does not show TRIPPED, if it shows another fingerprint or none, or IDLE or ARMED with its run mark set: LOST is reported
once. The lowest FRESH expected peer that shows TRIPPED with its run mark set is reported as PEER-TRIP, before LOST (R107 to
R109; DEDUCED, log entries 14 and 15). In a moving state the errors of the FRESH moving expected peers whose pass differs by at
most 1, with the own 0, give the median and the trim; I = N + t is written and k, m and t are kept, k the number of these errors
(DEDUCED, log entry 30); SLIP is reported if a peer was left out or |m| passes the slip limit (R111 to R117). In the run group
the group sum is kept and GROUP reported beyond a limit that is not 0 (R119). A FRESH moving expected peer whose BEAT had its
schedule mark clear gives no error, no SLIP and no count in k (DESIGN CHOICE, log entry 23). The trim lies within ±N/64 and the
median is one of the errors (R114, R115). -/
def Obligations.BeatInstantChecks : Prop :=
  (∀ (st : Station) (cfg : ConfigRecord),
    let agrees (e : PeerEntry) := ∃ x t, e.schedule = some x ∧ st.schedule.tables = some t ∧ x.fingerprint = t.fingerprint
    let fails (k : StationNo) := ∀ e, st.peer k = some e → e.fresh = false ∨
      (e.state ≠ .tripped ∧ (¬ agrees e ∨ (e.runMark = true ∧ (e.state = .idle ∨ e.state = .armed))))
    let trips (k : StationNo) := ∃ e, st.peer k = some e ∧ e.fresh = true ∧ e.runMark = true ∧ e.state = .tripped
    (st.ctl.mode.inRunGroup = false → st.consistencyCheck cfg = st) ∧
    (st.ctl.mode.inRunGroup = true →
      (∀ k : StationNo, expects cfg k = true → trips k → (∀ j : StationNo, j < k → expects cfg j = true → ¬ trips j) →
        st.consistencyCheck cfg = st.takeTrip cfg .peerTrip k) ∧
      ((∀ k : StationNo, expects cfg k = true → ¬ trips k) →
        ((∃ k : StationNo, expects cfg k = true ∧ fails k) → st.consistencyCheck cfg = st.takeReason cfg .lost (own cfg)) ∧
        ((∀ k : StationNo, expects cfg k = true → ¬ fails k) → st.consistencyCheck cfg = st)))) ∧
  (∀ (st : Station) (cfg : ConfigRecord) (p : Position) (length : Nat),
    let moving (k : StationNo) : Option (PeerSchedule × Nat) := (st.peer k).bind fun e =>
      if e.fresh = true ∧ e.state.isMoving = true then e.schedule.map fun x => (x, e.age) else none
    let passes (x : PeerSchedule) : Int := Int.bmod ((x.pass : Int) - (p.pass : Int)) 65536
    (st.syncErrors cfg p length).1 = (expectedPeers cfg).filterMap (fun k => (moving k).bind fun x =>
      if (passes x.1).natAbs ≤ 1 then
        some (Int.bmod ((x.1.whole : Int) + passes x.1 * length - p.whole) 4294967296 * 65536 +
          ((x.1.fraction + x.2 * nominal cfg : Nat) : Int) - p.fraction)
      else none) ∧
    ((st.syncErrors cfg p length).2 = true ↔
      ∃ k x, expects cfg k = true ∧ moving k = some x ∧ 1 < (passes x.1).natAbs)) ∧
  (∀ (st : Station) (cfg : ConfigRecord),
    let written (i : Nat) : Station :=
      { st with engine := { st.engine with regs := st.engine.regs.map fun x => { x with increment := i } } }
    (st.ctl.mode.isMoving = false → st.trimPart cfg = written (nominal cfg)) ∧
    (∀ (p : Position) (t : Tables), st.ctl.mode.isMoving = true → st.engine.position = some p → st.schedule.tables = some t →
      let errors := 0 :: (st.syncErrors cfg p t.passLength).1
      let m := medianOf errors
      let trim := trimOf m (nominal cfg)
      let trimmed : Station := { written ((nominal cfg : Int) + trim).toNat with
        peers := { st.peers with lastTrim := some { size := errors.length, median := m, trim := trim } } }
      let slips := (st.syncErrors cfg p t.passLength).2 = true ∨ cfg.slipLimit.toNat * 65536 < m.natAbs
      (slips → st.trimPart cfg = trimmed.takeReason cfg .slip (own cfg)) ∧ (¬ slips → st.trimPart cfg = trimmed))) ∧
  (∀ (st : Station) (cfg : ConfigRecord),
    let share (k : StationNo) : Int := match st.peer k with
      | none => 0
      | some e => if e.fresh = true ∧ e.group = cfg.group.toNat ∧ e.state.inRunGroup = true then e.share else 0
    let total := st.peers.ownShare + ((List.finRange 24).map share).sum
    let summed : Station := { st with peers := { st.peers with groupSum := some total } }
    let exceeds := cfg.groupLimit.toNat ≠ 0 ∧ cfg.groupLimit.toNat < total.natAbs
    (st.ctl.mode.inRunGroup = false → st.groupCheck cfg = st) ∧
    (st.ctl.mode.inRunGroup = true → exceeds → st.groupCheck cfg = summed.takeReason cfg .group (own cfg)) ∧
    (st.ctl.mode.inRunGroup = true → ¬ exceeds → st.groupCheck cfg = summed)) ∧
  (∀ (m : Int) (n : Nat), -((n / 64 : Nat) : Int) ≤ trimOf m n ∧ trimOf m n ≤ ((n / 64 : Nat) : Int) ∧
    ((Int.tdiv m 32).natAbs ≤ n / 64 → trimOf m n = Int.tdiv m 32) ∧
    (((n / 64 : Nat) : Int) < Int.tdiv m 32 → trimOf m n = ((n / 64 : Nat) : Int)) ∧
    (Int.tdiv m 32 < -((n / 64 : Nat) : Int) → trimOf m n = -((n / 64 : Nat) : Int))) ∧
  (∀ errors : List Int, errors ≠ [] → medianOf errors ∈ errors ∧
    (errors.filter (· < medianOf errors)).length ≤ (errors.length - 1) / 2 ∧
    (errors.filter (medianOf errors < ·)).length ≤ errors.length / 2)

/-! ### The rig link -/

/-- At an idle point with nothing received still to take and no attempt under way, the filled slot of the lowest class is
latched and its attempt begins, a BEAT with the values of this moment; with no slot filled nothing begins (R104, R129). A BEAT
carries the state code, the group, the hold flag, set exactly when the reasons are not empty, the reasons and the own share;
and, with the schedule mark, the fingerprint, the low bits of pass and whole position and the fraction, all zero with the mark
clear where the station has no tables or no position (R104, R198); the other flag bits are 0 (DESIGN CHOICE, log entry 37). A
frame this station has completed is delivered to it first (R129, R136; DESIGN CHOICE that it may wait until then, log entry 16).
With the line idle an own aborted frame is over (R131; DEDUCED, log entry 35). -/
def Obligations.IdlePointLatchesTheLowestClass : Prop :=
  (∀ (s : State) (cfg : ConfigRecord), s.station.RunsIn cfg →
    let st := s.station
    let me (body : FrameBody) : RigFrame := { sender := own cfg, body := body }
    (st.link.ownEnded = none → st.link.attempt = none →
      (∀ f : SlotFrame, st.link.tripSlot = some f →
        exec .idlePoint s = .next (s.withStation ({ st with link := { st.link with
          ownAborted := false
          tripSlot := some { f with latched := true }, attempt := some { slot := .trip, frame := me f.body } } }))) ∧
      (∀ f : SlotFrame, st.link.tripSlot = none → st.link.controlSlot = some f →
        exec .idlePoint s = .next (s.withStation ({ st with link := { st.link with
          ownAborted := false
          controlSlot := some { f with latched := true }, attempt := some { slot := .control, frame := me f.body } } }))) ∧
      (st.link.tripSlot = none → st.link.controlSlot = none → st.link.beatSlot = true →
        exec .idlePoint s = .next (s.withStation ({ st with link := { st.link with
          ownAborted := false, attempt := some { slot := .beat, frame := me (.beat (st.beatNow cfg)) } } }))) ∧
      (st.link.tripSlot = none → st.link.controlSlot = none → st.link.beatSlot = false →
        exec .idlePoint s = .next (s.withStation ({ st with link := { st.link with ownAborted := false } })))) ∧
    (∀ f : RigFrame, st.link.ownEnded = some f →
      exec .idlePoint s = exec .idlePoint (s.withStation
        (({ st with link := { st.link with ownEnded := none, ownAborted := false } } : Station).deliver cfg f true)))) ∧
  (∀ (st : Station) (cfg : ConfigRecord),
    let beat := st.beatNow cfg
    beat.state = BitVec.ofNat 8 st.ctl.mode.code ∧ beat.group = cfg.group ∧ beat.reasons = st.ctl.reasons.setWidth 16 ∧
    beat.share = BitVec.ofInt 24 st.peers.ownShare ∧ beat.flags.getLsbD 0 = decide (st.ctl.reasons ≠ 0#10) ∧
    (∀ i, 2 ≤ i → beat.flags.getLsbD i = false) ∧
    (∀ (t : Tables) (p : Position), st.schedule.tables = some t → st.engine.position = some p →
      beat.flags.getLsbD 1 = true ∧ beat.fingerprint = t.fingerprint ∧ beat.pass = BitVec.ofNat 16 p.pass ∧
      beat.whole = BitVec.ofNat 32 p.whole ∧ beat.fraction = BitVec.ofNat 16 p.fraction) ∧
    (st.schedule.tables = none ∨ st.engine.position = none →
      beat.flags.getLsbD 1 = false ∧ beat.fingerprint = 0 ∧ beat.pass = 0 ∧ beat.whole = 0 ∧ beat.fraction = 0)) ∧
  ([Mode.idle, .armed, .countdown, .rampIn, .playing, .rampOutMoving, .rampOutParked, .held, .ending, .complete,
    .tripped].map Mode.code = [1, 2, 3, 4, 5, 6, 7, 8, 9, 10, 11])

/-- The three outcomes of an attempt: lost, every slot keeps its frame and no count changes; aborted, the abort count rises, or
at 15 becomes 0 with LINK-ERROR raised and LINK reported, and the frame on the line is known as the own abort; completed, the
slot is emptied if it still holds the frame latched, the abort count becomes 0, and the frame is one this station has received
from itself (R124, R130 to R132, R136). That the frame completed waits in ownEnded to be taken is log entry 16 (DESIGN CHOICE),
that the own abort is known by the mark ownAborted is log entry 35 (DEDUCED from R131), and that CONSECUTIVE_ABORT_LIMIT is the
very abort at 15 is log entry 25 (DESIGN CHOICE). -/
def Obligations.AttemptOutcomes : Prop :=
  ∀ (s : State) (cfg : ConfigRecord) (a : Attempt), s.station.RunsIn cfg → s.station.link.attempt = some a →
    let st := s.station
    let unlatched (f : Option SlotFrame) := f.map fun x => { x with latched := false }
    let kept : RigLink := { st.link with
      attempt := none, tripSlot := unlatched st.link.tripSlot, controlSlot := unlatched st.link.controlSlot }
    let limit : Station := { st with
      link := { kept with aborts := 0, ownAborted := true }, events := st.events.raise .linkError }
    let emptied (f : Option SlotFrame) := f.bind fun x => if x.latched then none else some x
    exec .arbitrationLost s = .next (s.withStation ({ st with link := kept })) ∧
    (st.link.aborts < 15 →
      exec .attemptAborted s =
        .next (s.withStation ({ st with link := { kept with aborts := st.link.aborts + 1, ownAborted := true } }))) ∧
    (st.link.aborts = 15 →
      exec .attemptAborted s = .next (s.withStation (limit.takeReason cfg .link (own cfg))) ∧
      exec .consecutiveAbortLimit s = .next (s.withStation (limit.takeReason cfg .link (own cfg)))) ∧
    (a.slot = .trip →
      exec .attemptCompleted s = .next (s.withStation ({ st with link := { st.link with
        attempt := none, aborts := 0, ownEnded := some a.frame, tripSlot := emptied st.link.tripSlot } }))) ∧
    (a.slot = .control →
      exec .attemptCompleted s = .next (s.withStation ({ st with link := { st.link with
        attempt := none, aborts := 0, ownEnded := some a.frame, controlSlot := emptied st.link.controlSlot } }))) ∧
    (a.slot = .beat →
      exec .attemptCompleted s = .next (s.withStation ({ st with link := { st.link with
        attempt := none, aborts := 0, ownEnded := some a.frame, beatSlot := false } })))

/-- A received frame that fails a check of R133 is dropped and counted, and raises LINK-ERROR (R133, R134): fewer bytes than its
kind calls for, an unknown kind, a key outside the table or of another class, or a CRC that differs. The station's own aborted
frame is neither counted nor raised at its cut-short end, and a frame that another station drives on to its end after the own
abort is checked and counted as any other (R131; DEDUCED, log entry 35). That FRAME_DROPPED carries the bytes heard until the
line fell idle, of which those past the kind's length are no part of the frame, and that bytes which pass every check are the
frame they spell, is log entry 21 (DESIGN CHOICE). -/
def Obligations.BadFramesAreDropped : Prop :=
  (∀ (s : State) (cfg : ConfigRecord) (bytes : List Byte) (otherDriving : Bool), s.station.RunsIn cfg →
    let ended := exec (.frameDropped { bytes := bytes, otherDriving := otherDriving }) s
    (readFrame bytes = none → s.station.link.ownAborted = false ∨ otherDriving = true →
      ended = .next (s.withStation ({ s.station with
        link := { s.station.link with linkErrors := min 65535 (s.station.link.linkErrors + 1), ownAborted := false }
        events := s.station.events.raise .linkError }))) ∧
    (readFrame bytes = none → s.station.link.ownAborted = true → otherDriving = false →
      ended = .next (s.withStation ({ s.station with link := { s.station.link with ownAborted := false } }))) ∧
    (∀ f : RigFrame, readFrame bytes = some f → ended = exec (frameCommand f false) s)) ∧
  ([1, 2, 3, 4, 5].map (fun k => frameLength (BitVec.ofNat 8 k)) = [some 5, some 16, some 6, some 16, some 22]) ∧
  (∀ (key kind : Byte) (rest : List Byte) (n : Nat), frameLength kind = some n →
    (readFrame (key :: kind :: rest) = none ↔
      rest.length + 2 < n ∨ key.toNat / 32 ≠ (if kind = 0x01#8 then 0 else if kind = 0x05#8 then 2 else 1) ∨
        24 ≤ key.toNat % 32 ∨
        (crc16 0#16 ((key :: kind :: rest).take (n - 2))).toNat ≠ ofBe (((key :: kind :: rest).take n).drop (n - 2)))) ∧
  (∀ (key kind : Byte) (rest : List Byte), kind.toNat = 0 ∨ 5 < kind.toNat → readFrame (key :: kind :: rest) = none) ∧
  readFrame [] = none ∧ (∀ key : Byte, readFrame [key] = none)

/-- The order in which frames are taken and the mark of R135. A frame that comes while an own frame has ended and is still to be
taken finds that one delivered before it, with the mark set, and is then taken with the mark clear; a frame that comes with the
mark is the own one only if this station has completed that very frame, and with the mark clear otherwise; in every case an own
aborted frame is over (R129, R131, R135, R136). That ownEnded keeps the own frame until then is log entry 16 (DESIGN CHOICE);
the mark ownAborted is log entry 35 (DEDUCED). -/
def Obligations.FramesAreTakenInOrder : Prop :=
  ∀ (s : State) (cfg : ConfigRecord) (f : RigFrame), s.station.RunsIn cfg →
    let st := s.station
    let passed : Station := { st with link := { st.link with ownEnded := none, ownAborted := false } }
    (∀ g : RigFrame, st.link.ownEnded = some g →
      exec (frameCommand f false) s = exec (frameCommand f false) (s.withStation (passed.deliver cfg g true))) ∧
    (st.link.ownEnded = some f → exec (frameCommand f true) s = .next (s.withStation (passed.deliver cfg f true))) ∧
    (st.link.ownEnded ≠ some f → exec (frameCommand f true) s = exec (frameCommand f false) s) ∧
    (∀ mark : Bool, exec (frameCommand f mark) s =
      exec (frameCommand f mark) (s.withStation ({ st with link := { st.link with ownAborted := false } })))

/-- A BEAT of another station is entered, with its nine fields, age 0, FRESH, and the run mark by the own state; PEER-JOINED
is raised if it had no entry or a STALE one (R99). Then a set hold flag of an expected peer is the taking of PEER in
COUNTDOWN, RAMP-IN and PLAYING (R110), and TRIPPED at an expected peer the taking of PEER-TRIP in the run group (R109). An own
BEAT is not entered (R99, R136); it is known by ownEnded (DESIGN CHOICE, log entry 16). A group or a share outside its range is
entered as sent (DESIGN CHOICE, log entry 32), and the flag bits 2 to 7 are passed over (DESIGN CHOICE, log entry 37). -/
def Obligations.BeatIsEntered : Prop :=
  ∀ (s : State) (cfg : ConfigRecord) (k : StationNo) (f : BeatFields), s.station.RunsIn cfg →
    s.station.link.ownAborted = false →
    let st := s.station
    let kept := (st.peer k).bind (·.lastControl)
    let mark := if f.state.toNat = 0 ∨ 11 < f.state.toNat then false else f.flags.getLsbD 1
    let entry : PeerEntry :=
      { state := Mode.ofBeatCode f.state, group := f.group.toNat
        schedule := if mark then some
          { fingerprint := f.fingerprint, pass := f.pass.toNat, whole := f.whole.toNat, fraction := f.fraction.toNat } else none
        holdFlag := f.flags.getLsbD 0, reasons := f.reasons.setWidth 10, share := f.share.toInt, age := 0, fresh := true
        runMark := st.ctl.mode.inRunGroup, lastControl := kept }
    let joins := (st.peer k).all fun e => !e.fresh
    let entered : Station := { st with
      peers := { st.peers with entries := st.peers.entries.set k (some entry) }
      events := if joins then st.events.raise .peerJoined else st.events }
    let flagged := expects cfg k = true ∧ f.flags.getLsbD 0 = true ∧
      (st.ctl.mode = .countdown ∨ st.ctl.mode = .rampIn ∨ st.ctl.mode = .playing)
    let tripped := expects cfg k = true ∧ f.state.toNat = 11 ∧ st.ctl.mode.inRunGroup = true
    (st.link.ownEnded = none → k ≠ own cfg →
      (¬ flagged → ¬ tripped → exec (.beatFrame ⟨k, false⟩ f) s = .next (s.withStation entered)) ∧
      (flagged → ¬ tripped → exec (.beatFrame ⟨k, false⟩ f) s = .next (s.withStation (entered.takeReason cfg .peer k))) ∧
      (¬ flagged → tripped → exec (.beatFrame ⟨k, false⟩ f) s = .next (s.withStation (entered.takeTrip cfg .peerTrip k))) ∧
      (flagged → tripped → exec (.beatFrame ⟨k, false⟩ f) s =
        .next (s.withStation ((entered.takeReason cfg .peer k).takeTrip cfg .peerTrip k)))) ∧
    (st.link.ownEnded = some { sender := own cfg, body := .beat f } →
      exec (.beatFrame ⟨own cfg, true⟩ f) s =
        .next (s.withStation ({ st with link := { st.link with ownEnded := none } })))

/-- A GO of a peer removes an own GO from CONTROL in every state (R77). In ARMED, with the own fingerprint and a legal position,
it is taken: the position is the frame's, g 0, the countdown 64, COUNTDOWN entered, the run marks cleared; otherwise it is not
(R76, R107). A fingerprint and a position match when the frozen tables have that fingerprint, whole lies below their L, and pass
lies in 1..P where P is not 0 (R27, R76, R86). In both cases it is recorded in the sender's entry (R101). An own GO is taken as
a peer's is (R136), and is known by ownEnded and the mark (DESIGN CHOICE, log entry 16). -/
def Obligations.GoFrameDecides : Prop :=
  (∀ (s : State) (cfg : ConfigRecord) (k : StationNo) (fp : BitVec 16) (pass : BitVec 32) (whole : BitVec 48),
    s.station.RunsIn cfg → s.station.link.ownAborted = false →
    let st := s.station
    let isTaken := st.ctl.mode = .armed ∧ st.matchesSchedule fp pass whole = true
    let taken (x : Station) : Station := { x with
      ctl := { x.ctl with mode := .countdown, permit := true, countdown := some 64 }
      engine := { x.engine with
        position := some { pass := pass.toNat, whole := whole.toNat, fraction := 0, park := .none }, fadeEnd := none
        regs := x.engine.regs.map fun r => { r with fade := 0, increment := nominal cfg } }
      peers := { x.peers with entries := x.peers.entries.map fun e => e.map fun y => { y with runMark := false } }
      events := x.events.raise .state }
    let control := if isGo st.link.controlSlot then none else st.link.controlSlot
    let heard : Station := { st with link := { st.link with controlSlot := control } }
    let passed : Station := { st with link := { st.link with ownEnded := none } }
    (k ≠ own cfg → st.link.ownEnded = none →
      (isTaken → exec (.goFrame ⟨k, false⟩ fp pass whole) s = .next (s.withStation ((taken heard).recordControl cfg k .go))) ∧
      (¬ isTaken → exec (.goFrame ⟨k, false⟩ fp pass whole) s = .next (s.withStation (heard.recordControl cfg k .go)))) ∧
    (st.link.ownEnded = some { sender := own cfg, body := .go fp pass whole } →
      (isTaken → exec (.goFrame ⟨own cfg, true⟩ fp pass whole) s = .next (s.withStation (taken passed))) ∧
      (¬ isTaken → exec (.goFrame ⟨own cfg, true⟩ fp pass whole) s = .next (s.withStation passed)))) ∧
  (∀ (st : Station) (fp : BitVec 16) (pass : BitVec 32) (whole : BitVec 48),
    st.matchesSchedule fp pass whole = true ↔ ∃ t : Tables, st.schedule.tables = some t ∧ t.fingerprint = fp ∧
      whole.toNat < t.passLength ∧ (st.schedule.passes = 0 ∨ (1 ≤ pass.toNat ∧ pass.toNat ≤ st.schedule.passes)))

/-- A HOLD of a peer is the taking of PEER with the sender as origin in COUNTDOWN, RAMP-IN, PLAYING, RAMP-OUT and HELD, and is
not taken elsewhere; an own HOLD is taken in no state. The frame is recorded in the sender's entry (R70, R101). The own frame is
known by ownEnded and the mark (DESIGN CHOICE, log entry 16). -/
def Obligations.HoldFrameDecides : Prop :=
  ∀ (s : State) (cfg : ConfigRecord) (k : StationNo) (reasons : BitVec 16), s.station.RunsIn cfg →
    s.station.link.ownAborted = false →
    let st := s.station
    let takes := st.ctl.mode = .countdown ∨ st.ctl.mode = .rampIn ∨ st.ctl.mode = .playing ∨ st.ctl.mode = .rampOutMoving ∨
      st.ctl.mode = .rampOutParked ∨ st.ctl.mode = .held
    let seen : ControlSeen := .hold (reasons.setWidth 10)
    (k ≠ own cfg → st.link.ownEnded = none →
      (takes → exec (.holdFrame ⟨k, false⟩ reasons) s =
        .next (s.withStation ((st.takeReason cfg .peer k).recordControl cfg k seen))) ∧
      (¬ takes → exec (.holdFrame ⟨k, false⟩ reasons) s = .next (s.withStation (st.recordControl cfg k seen)))) ∧
    (st.link.ownEnded = some { sender := own cfg, body := .hold reasons } →
      exec (.holdFrame ⟨own cfg, true⟩ reasons) s =
        .next (s.withStation ({ st with link := { st.link with ownEnded := none } })))

/-- A RESUME received in HELD, with the own fingerprint and a legal position: with an empty latched set it is taken, HOST, PEER
and WAIT leave the set, the hold record is emptied, the position is the frame's and COUNTDOWN is entered at 64; with latched
reasons it is not taken and a HOLD frame with the set is placed (R86, R87). In every other case nothing is taken. The frame is
recorded in the sender's entry (R101). An own RESUME is taken as a peer's is (R136), and is known by ownEnded and the mark
(DESIGN CHOICE, log entry 16). -/
def Obligations.ResumeFrameDecides : Prop :=
  ∀ (s : State) (cfg : ConfigRecord) (k : StationNo) (fp : BitVec 16) (pass : BitVec 32) (whole : BitVec 48),
    s.station.RunsIn cfg → s.station.link.ownAborted = false →
    let st := s.station
    let meets := st.ctl.mode = .held ∧ st.matchesSchedule fp pass whole = true
    let latched := st.ctl.reasons &&& 0b1111111000#10
    let taken (x : Station) : Station := { x with
      ctl := { x.ctl with mode := .countdown, permit := true, countdown := some 64, reasons := 0, holdRecord := none }
      engine := { x.engine with
        position := some { pass := pass.toNat, whole := whole.toNat, fraction := 0, park := .none }, fadeEnd := none
        regs := x.engine.regs.map fun r => { r with increment := nominal cfg } }
      events := x.events.raise .state }
    let answered (x : Station) : Station := { x with link := { x.link with
      controlSlot := some { body := .hold (st.ctl.reasons.setWidth 16), latched := false } } }
    let seen : ControlSeen := .resume pass.toNat whole.toNat
    let passed : Station := { st with link := { st.link with ownEnded := none } }
    (k ≠ own cfg → st.link.ownEnded = none →
      (meets → latched = 0#10 →
        exec (.resumeFrame ⟨k, false⟩ fp pass whole) s = .next (s.withStation ((taken st).recordControl cfg k seen))) ∧
      (meets → latched ≠ 0#10 →
        exec (.resumeFrame ⟨k, false⟩ fp pass whole) s = .next (s.withStation ((answered st).recordControl cfg k seen))) ∧
      (¬ meets → exec (.resumeFrame ⟨k, false⟩ fp pass whole) s = .next (s.withStation (st.recordControl cfg k seen)))) ∧
    (st.link.ownEnded = some { sender := own cfg, body := .resume fp pass whole } →
      (meets → latched = 0#10 → exec (.resumeFrame ⟨own cfg, true⟩ fp pass whole) s = .next (s.withStation (taken passed))) ∧
      (meets → latched ≠ 0#10 → exec (.resumeFrame ⟨own cfg, true⟩ fp pass whole) s = .next (s.withStation (answered passed))) ∧
      (¬ meets → exec (.resumeFrame ⟨own cfg, true⟩ fp pass whole) s = .next (s.withStation passed)))

/-- A TRIP of another station is the taking of PEER-TRIP with the sender as origin, which trips a permit state and no other; one
that this station completed is not taken. The frame is recorded in the sender's entry with the cause it carries (R93, R101,
R199). To record a control frame is to set the last control kind, detail and age 0 of an entry that exists and is not the
station's own, and nothing else; it makes no entry (R101). The own frame is known by ownEnded and the mark (DESIGN CHOICE, log
entry 16). -/
def Obligations.TripFrameDecides : Prop :=
  (∀ (s : State) (cfg : ConfigRecord) (k : StationNo) (cause : BitVec 8), s.station.RunsIn cfg →
    s.station.link.ownAborted = false →
    let st := s.station
    (k ≠ own cfg → st.link.ownEnded = none →
      exec (.tripFrame ⟨k, false⟩ cause) s =
        .next (s.withStation ((st.takeTrip cfg .peerTrip k).recordControl cfg k (.trip cause))) ∧
      (st.ctl.mode.isPermit = true → (st.takeTrip cfg .peerTrip k).ctl.mode = .tripped) ∧
      (st.ctl.mode.isPermit = false → st.takeTrip cfg .peerTrip k = st)) ∧
    (st.link.ownEnded = some { sender := own cfg, body := .trip cause } →
      exec (.tripFrame ⟨own cfg, true⟩ cause) s =
        .next (s.withStation ({ st with link := { st.link with ownEnded := none } })))) ∧
  (∀ (st : Station) (cfg : ConfigRecord) (k : StationNo) (seen : ControlSeen),
    (k = own cfg ∨ st.peer k = none → st.recordControl cfg k seen = st) ∧
    (∀ e : PeerEntry, k ≠ own cfg → st.peer k = some e → st.recordControl cfg k seen = { st with
      peers := { st.peers with entries := st.peers.entries.set k (some { e with lastControl := some { seen := seen, age := 0 } }) } }))

/-- A frame that bears the own number and that this station did not complete is a clash: CLASH is raised and recorded, and in
the run group LINK is reported. Then the frame is taken by its kind: a HOLD is not taken, a BEAT is not entered, a TRIP trips as
a peer's does, a GO removes an own GO and is taken in ARMED, a RESUME that meets its conditions finds LINK latched and is
answered with a HOLD; no entry records it (R76, R77, R87, R99, R101, R120, R135). That the station completed it is known by
ownEnded and the mark (DESIGN CHOICE, log entry 16). -/
def Obligations.ClashIsReported : Prop :=
  ∀ (s : State) (cfg : ConfigRecord), s.station.RunsIn cfg → s.station.link.ownEnded = none →
    s.station.link.ownAborted = false →
    let st := s.station
    let noted : Station := { st with ctl := { st.ctl with clash := true }, events := st.events.raise .clash }
    let clashed := if st.ctl.mode.inRunGroup then noted.takeReason cfg .link (own cfg) else noted
    let heard : Station := { clashed with link := { clashed.link with
      controlSlot := if isGo clashed.link.controlSlot then none else clashed.link.controlSlot } }
    (∀ reasons, exec (.holdFrame ⟨own cfg, false⟩ reasons) s = .next (s.withStation clashed)) ∧
    (∀ f, exec (.beatFrame ⟨own cfg, false⟩ f) s = .next (s.withStation clashed)) ∧
    (∀ cause, exec (.tripFrame ⟨own cfg, false⟩ cause) s =
      .next (s.withStation (clashed.takeTrip cfg .peerTrip (own cfg)))) ∧
    (∀ (fp : BitVec 16) (pass : BitVec 32) (whole : BitVec 48),
      let startsHere := st.ctl.mode = .armed ∧ st.matchesSchedule fp pass whole = true
      (¬ startsHere → exec (.goFrame ⟨own cfg, false⟩ fp pass whole) s = .next (s.withStation heard)) ∧
      (startsHere → exec (.goFrame ⟨own cfg, false⟩ fp pass whole) s = .next (s.withStation ({ heard with
        ctl := { heard.ctl with mode := .countdown, permit := true, countdown := some 64 }
        engine := { heard.engine with
          position := some { pass := pass.toNat, whole := whole.toNat, fraction := 0, park := .none }, fadeEnd := none
          regs := heard.engine.regs.map fun r => { r with fade := 0, increment := nominal cfg } }
        peers := { heard.peers with entries := heard.peers.entries.map fun e => e.map fun y => { y with runMark := false } }
        events := heard.events.raise .state })))) ∧
    (∀ (fp : BitVec 16) (pass : BitVec 32) (whole : BitVec 48),
      let answers := clashed.ctl.mode = .held ∧ st.matchesSchedule fp pass whole = true
      (answers → clashed.ctl.reasons.getLsbD 9 = true ∧
        exec (.resumeFrame ⟨own cfg, false⟩ fp pass whole) s = .next (s.withStation ({ clashed with link := { clashed.link with
          controlSlot := some { body := .hold (clashed.ctl.reasons.setWidth 16), latched := false } } }))) ∧
      (¬ answers → exec (.resumeFrame ⟨own cfg, false⟩ fp pass whole) s = .next (s.withStation clashed)))

/-! ### The lines -/

/-- ESTOP becoming active is recorded and raises ESTOP in every configured state, and is the taking of the trip cause ESTOP;
where it is taken as active already it does not become so; becoming inactive it is recorded with no event and no report. In
UNCONFIGURED the line is not watched (R166). Power-on, the loss of the supply and both changes of the RESET line leave every
block at its power-on values, the start kind HARD; the lines outside stand as they are (R193). That POWER_ON starts a station
already powered anew is log entry 22 (DEDUCED), that the blocks stand at these values while the supply is off log entry 33
(DESIGN CHOICE), that the store's contents are kept log entry 4 (DESIGN CHOICE). While the supply is off or RESET is active
nothing but the lines has an effect, and ESTOP only its level outside (DEDUCED, log entry 28). -/
def Obligations.LineCommandsDecide : Prop :=
  (∀ s : State, s.station.running = true →
    let st := s.station
    (∀ cfg : ConfigRecord, st.config = some cfg → st.sup.estopTaken ≠ some true →
      exec .estopActive s = .next (s.withStation (({ st with
        estopLine := true, sup := { st.sup with estopTaken := some true }, events := st.events.raise .estop } :
          Station).takeTrip cfg .estop (own cfg)))) ∧
    (∀ cfg : ConfigRecord, st.config = some cfg → st.sup.estopTaken = some true →
      exec .estopActive s = .next (s.withStation ({ st with estopLine := true }))) ∧
    (∀ cfg : ConfigRecord, st.config = some cfg →
      exec .estopInactive s = .next (s.withStation ({ st with
        estopLine := false, sup := { st.sup with estopTaken := some false } }))) ∧
    (st.config = none →
      exec .estopActive s = .next (s.withStation ({ st with estopLine := true })) ∧
      exec .estopInactive s = .next (s.withStation ({ st with estopLine := false })))) ∧
  (∀ s : State,
    let st := s.station
    let restarted (power resetLine : Bool) : State := (s.withStation
      ({ Station.reset with power := power, resetLine := resetLine, estopLine := st.estopLine, store := st.store }))
    exec .powerOn s = .next (restarted true st.resetLine) ∧
    exec .powerOff s = .next (restarted false st.resetLine) ∧
    exec .resetLineActive s = .next (restarted st.power true) ∧
    (st.resetLine = true → exec .resetLineInactive s = .next (restarted st.power false)) ∧
    (st.resetLine = false → exec .resetLineInactive s = .next s)) ∧
  (∀ s : State, s.station.running = false →
    let still (c : Instr) := exec c s = .next s
    (∀ r : Request, still (commandOf r)) ∧ (∀ f, still (.hostFrameRefused f)) ∧ (∀ b, still (.hostByte b)) ∧
    (∀ inA inB, still (.update inA inB)) ∧ (∀ k, still (.peerStale k)) ∧ (∀ frame, still (.frameDropped frame)) ∧
    (∀ (f : RigFrame) (mark : Bool), still (frameCommand f mark)) ∧
    (∀ c ∈ [Instr.stationResetEffect, .partialFrameTimeout, .transmitterFrameSent, .reportDue, .trackCountReached, .driveSilence,
      .countdownExpiry, .endOfRampIn, .endOfRampOut, .beatInstant, .idlePoint, .arbitrationLost, .attemptAborted,
      .consecutiveAbortLimit, .attemptCompleted], still c) ∧
    exec .estopActive s = .next (s.withStation ({ s.station with estopLine := true })) ∧
    exec .estopInactive s = .next (s.withStation ({ s.station with estopLine := false })))

/-! ### What every step keeps -/

/-- Every step keeps the Station Controller's invariant (R62, R64 to R66, R78, R91, R96): PERMIT is active exactly in the
permit states; the station is UNCONFIGURED exactly without a configuration; the countdown lies in 0..64 in COUNTDOWN and is
absent elsewhere; the hold reason set is empty where no hold has begun; RAMP-OUT and HELD have a hold record, and TRIPPED a
trip record. -/
def Obligations.StepKeepsController : Prop :=
  ∀ s t : State, s.station.ControllerOk → step s = .next t → t.station.ControllerOk

/-- Every step keeps ATTENTION active exactly while a latched event is in the attention mask, the mask absent and ATTENTION
inactive exactly as the station has no configuration (R184). -/
def Obligations.StepKeepsAttention : Prop :=
  ∀ s t : State, s.station.AttentionOk → step s = .next t → t.station.AttentionOk

/-- Every step keeps the segment records legal and their page runs apart, with at most one LOADING, and the store in its
canonical form (R3, R4, R7 to R10). -/
def Obligations.StepKeepsSegmentsAndStore : Prop :=
  ∀ s t : State, s.station.SegmentsOk → s.station.StoreOk → step s = .next t → t.station.SegmentsOk ∧ t.station.StoreOk

/-- Every step keeps the schedule's invariant: while it is frozen every segment it names is READY (R15), the tables are those
of the playlist and P (R25, R26), and the position is legal (R27). -/
def Obligations.StepKeepsSchedule : Prop :=
  ∀ s t : State, s.station.SegmentsOk → s.station.ScheduleOk → step s = .next t → t.station.ScheduleOk

/-- Every step keeps g in 0..32768, 32768 in PLAYING and 0 outside the fades and PLAYING (R51), and I at N outside the moving
states and within N ± N/64 in them (R41). -/
def Obligations.StepKeepsFadeAndIncrement : Prop :=
  ∀ s t : State, s.station.fadeOk = true → s.station.incrementOk = true → step s = .next t →
    t.station.fadeOk = true ∧ t.station.incrementOk = true

/-- Every step keeps every command inside the envelope: c, c_prev, the offer and every COMMAND datagram within Cmin..Cmax, and
an offer within Rmax of the command before it (R56). -/
def Obligations.StepKeepsCommandInEnvelope : Prop :=
  ∀ s t : State, s.station.RegsOk → s.station.recordOk = true → s.station.commandOk = true → step s = .next t →
    t.station.RegsOk ∧ t.station.recordOk = true ∧ t.station.commandOk = true

/-- Every step keeps the slots' invariant (R74, R91, R130 to R132, R137): a latched slot holds the frame of the attempt under
way, TRIPPED has an empty CONTROL slot, IDLE holds no GO or RESUME of its own, without a configuration there is nothing to send,
the two counts are in range, and an own aborted frame is on the line only between attempts (the mark is the model's, DEDUCED,
log entry 35); and the peer entries' (R98, R100): none for the own number, none without a configuration, and a FRESH one within
the silence limit. -/
def Obligations.StepKeepsLinkAndPeers : Prop :=
  ∀ s t : State, s.station.SlotsOk → s.station.peersOk = true → step s = .next t →
    t.station.SlotsOk ∧ t.station.peersOk = true

/-- Every step keeps the queues and counters of the drive line, the Supervision Unit, the Replay Engine and the host port in
range, the refresh counter below its interval and the report timer below n × 64 among them (R54, R139, R142, R145, R148, R152,
R164, R171, R185), and the host port's invariant: the partial-frame timer runs exactly while a frame is being collected; an IDLE
transmitter has nothing left to take, and no frame waits beside an empty reply place unless a reset is to come (R176, R178,
R179). -/
def Obligations.StepKeepsPortAndCounters : Prop :=
  ∀ s t : State, s.station.PortOk → s.station.CountersOk → step s = .next t → t.station.PortOk ∧ t.station.CountersOk

/-! ### Encodings -/

/-- A rig link frame written as bytes is read back as itself, whatever its kind, sender and fields, and whatever bytes come
after its CRC (R123, R133, R198). A request written as a host frame passes the checks of R176 and is read back as itself, a
SEGMENT-DATA with as many samples as a frame holds (R176, R196, R197). -/
def Obligations.FramesReadBack : Prop :=
  (∀ (f : RigFrame) (rest : List Byte), readFrame (f.bytes ++ rest) = some f) ∧
  (∀ r : Request, (∀ id part samples, r = .segmentData id part samples → samples.length ≤ 53) → verdict (frameOf r) = .request r)
end

