-- ==== Sys2Proof/Laws/State.lean ====
section
/-! SUPPORT. One lemma per field for every plain update of the station, true by rfl: a proof about an update rewrites with
these and unfolds no record. Then the same for the Event Set and for the state around the station. -/

namespace Sys2Proof.Machine

variable (st : Station)

/-! ### Station.raise: raising an event -/

@[simp] theorem Station.raise_power (e : Event) : (st.raise e).power = st.power := rfl
@[simp] theorem Station.raise_resetLine (e : Event) : (st.raise e).resetLine = st.resetLine := rfl
@[simp] theorem Station.raise_estopLine (e : Event) : (st.raise e).estopLine = st.estopLine := rfl
@[simp] theorem Station.raise_startKind (e : Event) : (st.raise e).startKind = st.startKind := rfl
@[simp] theorem Station.raise_config (e : Event) : (st.raise e).config = st.config := rfl
@[simp] theorem Station.raise_store (e : Event) : (st.raise e).store = st.store := rfl
@[simp] theorem Station.raise_segments (e : Event) : (st.raise e).segments = st.segments := rfl
@[simp] theorem Station.raise_cutLoadings (e : Event) : (st.raise e).cutLoadings = st.cutLoadings := rfl
@[simp] theorem Station.raise_schedule (e : Event) : (st.raise e).schedule = st.schedule := rfl
@[simp] theorem Station.raise_engine (e : Event) : (st.raise e).engine = st.engine := rfl
@[simp] theorem Station.raise_ctl (e : Event) : (st.raise e).ctl = st.ctl := rfl
@[simp] theorem Station.raise_peers (e : Event) : (st.raise e).peers = st.peers := rfl
@[simp] theorem Station.raise_link (e : Event) : (st.raise e).link = st.link := rfl
@[simp] theorem Station.raise_drive (e : Event) : (st.raise e).drive = st.drive := rfl
@[simp] theorem Station.raise_sup (e : Event) : (st.raise e).sup = st.sup := rfl
@[simp] theorem Station.raise_port (e : Event) : (st.raise e).port = st.port := rfl
@[simp] theorem Station.raise_events (e : Event) : (st.raise e).events = st.events.raise e := rfl

/-! ### Station.setIncrement: writing the increment -/

@[simp] theorem Station.setIncrement_power (i : Nat) : (st.setIncrement i).power = st.power := rfl
@[simp] theorem Station.setIncrement_resetLine (i : Nat) : (st.setIncrement i).resetLine = st.resetLine := rfl
@[simp] theorem Station.setIncrement_estopLine (i : Nat) : (st.setIncrement i).estopLine = st.estopLine := rfl
@[simp] theorem Station.setIncrement_startKind (i : Nat) : (st.setIncrement i).startKind = st.startKind := rfl
@[simp] theorem Station.setIncrement_config (i : Nat) : (st.setIncrement i).config = st.config := rfl
@[simp] theorem Station.setIncrement_store (i : Nat) : (st.setIncrement i).store = st.store := rfl
@[simp] theorem Station.setIncrement_segments (i : Nat) : (st.setIncrement i).segments = st.segments := rfl
@[simp] theorem Station.setIncrement_cutLoadings (i : Nat) : (st.setIncrement i).cutLoadings = st.cutLoadings := rfl
@[simp] theorem Station.setIncrement_schedule (i : Nat) : (st.setIncrement i).schedule = st.schedule := rfl
@[simp] theorem Station.setIncrement_engine (i : Nat) :
    (st.setIncrement i).engine = { st.engine with regs := st.engine.regs.map fun r => { r with increment := i } } := rfl
@[simp] theorem Station.setIncrement_ctl (i : Nat) : (st.setIncrement i).ctl = st.ctl := rfl
@[simp] theorem Station.setIncrement_peers (i : Nat) : (st.setIncrement i).peers = st.peers := rfl
@[simp] theorem Station.setIncrement_link (i : Nat) : (st.setIncrement i).link = st.link := rfl
@[simp] theorem Station.setIncrement_drive (i : Nat) : (st.setIncrement i).drive = st.drive := rfl
@[simp] theorem Station.setIncrement_sup (i : Nat) : (st.setIncrement i).sup = st.sup := rfl
@[simp] theorem Station.setIncrement_port (i : Nat) : (st.setIncrement i).port = st.port := rfl
@[simp] theorem Station.setIncrement_events (i : Nat) : (st.setIncrement i).events = st.events := rfl

/-! ### Station.placeControl: placing a control frame -/

@[simp] theorem Station.placeControl_power (b : FrameBody) : (st.placeControl b).power = st.power := rfl
@[simp] theorem Station.placeControl_resetLine (b : FrameBody) : (st.placeControl b).resetLine = st.resetLine := rfl
@[simp] theorem Station.placeControl_estopLine (b : FrameBody) : (st.placeControl b).estopLine = st.estopLine := rfl
@[simp] theorem Station.placeControl_startKind (b : FrameBody) : (st.placeControl b).startKind = st.startKind := rfl
@[simp] theorem Station.placeControl_config (b : FrameBody) : (st.placeControl b).config = st.config := rfl
@[simp] theorem Station.placeControl_store (b : FrameBody) : (st.placeControl b).store = st.store := rfl
@[simp] theorem Station.placeControl_segments (b : FrameBody) : (st.placeControl b).segments = st.segments := rfl
@[simp] theorem Station.placeControl_cutLoadings (b : FrameBody) : (st.placeControl b).cutLoadings = st.cutLoadings := rfl
@[simp] theorem Station.placeControl_schedule (b : FrameBody) : (st.placeControl b).schedule = st.schedule := rfl
@[simp] theorem Station.placeControl_engine (b : FrameBody) : (st.placeControl b).engine = st.engine := rfl
@[simp] theorem Station.placeControl_ctl (b : FrameBody) : (st.placeControl b).ctl = st.ctl := rfl
@[simp] theorem Station.placeControl_peers (b : FrameBody) : (st.placeControl b).peers = st.peers := rfl
@[simp] theorem Station.placeControl_link (b : FrameBody) :
    (st.placeControl b).link = { st.link with controlSlot := some { body := b, latched := false } } := rfl
@[simp] theorem Station.placeControl_drive (b : FrameBody) : (st.placeControl b).drive = st.drive := rfl
@[simp] theorem Station.placeControl_sup (b : FrameBody) : (st.placeControl b).sup = st.sup := rfl
@[simp] theorem Station.placeControl_port (b : FrameBody) : (st.placeControl b).port = st.port := rfl
@[simp] theorem Station.placeControl_events (b : FrameBody) : (st.placeControl b).events = st.events := rfl

/-! ### Station.placeTrip: placing a TRIP frame -/

@[simp] theorem Station.placeTrip_power (c : TripCause) : (st.placeTrip c).power = st.power := rfl
@[simp] theorem Station.placeTrip_resetLine (c : TripCause) : (st.placeTrip c).resetLine = st.resetLine := rfl
@[simp] theorem Station.placeTrip_estopLine (c : TripCause) : (st.placeTrip c).estopLine = st.estopLine := rfl
@[simp] theorem Station.placeTrip_startKind (c : TripCause) : (st.placeTrip c).startKind = st.startKind := rfl
@[simp] theorem Station.placeTrip_config (c : TripCause) : (st.placeTrip c).config = st.config := rfl
@[simp] theorem Station.placeTrip_store (c : TripCause) : (st.placeTrip c).store = st.store := rfl
@[simp] theorem Station.placeTrip_segments (c : TripCause) : (st.placeTrip c).segments = st.segments := rfl
@[simp] theorem Station.placeTrip_cutLoadings (c : TripCause) : (st.placeTrip c).cutLoadings = st.cutLoadings := rfl
@[simp] theorem Station.placeTrip_schedule (c : TripCause) : (st.placeTrip c).schedule = st.schedule := rfl
@[simp] theorem Station.placeTrip_engine (c : TripCause) : (st.placeTrip c).engine = st.engine := rfl
@[simp] theorem Station.placeTrip_ctl (c : TripCause) : (st.placeTrip c).ctl = st.ctl := rfl
@[simp] theorem Station.placeTrip_peers (c : TripCause) : (st.placeTrip c).peers = st.peers := rfl
@[simp] theorem Station.placeTrip_link (c : TripCause) :
    (st.placeTrip c).link = { st.link with tripSlot := some { body := .trip (codeByte c.code), latched := false } } := rfl
@[simp] theorem Station.placeTrip_drive (c : TripCause) : (st.placeTrip c).drive = st.drive := rfl
@[simp] theorem Station.placeTrip_sup (c : TripCause) : (st.placeTrip c).sup = st.sup := rfl
@[simp] theorem Station.placeTrip_port (c : TripCause) : (st.placeTrip c).port = st.port := rfl
@[simp] theorem Station.placeTrip_events (c : TripCause) : (st.placeTrip c).events = st.events := rfl

/-! ### Station.emptyControl: emptying the CONTROL slot -/

@[simp] theorem Station.emptyControl_power : st.emptyControl.power = st.power := rfl
@[simp] theorem Station.emptyControl_resetLine : st.emptyControl.resetLine = st.resetLine := rfl
@[simp] theorem Station.emptyControl_estopLine : st.emptyControl.estopLine = st.estopLine := rfl
@[simp] theorem Station.emptyControl_startKind : st.emptyControl.startKind = st.startKind := rfl
@[simp] theorem Station.emptyControl_config : st.emptyControl.config = st.config := rfl
@[simp] theorem Station.emptyControl_store : st.emptyControl.store = st.store := rfl
@[simp] theorem Station.emptyControl_segments : st.emptyControl.segments = st.segments := rfl
@[simp] theorem Station.emptyControl_cutLoadings : st.emptyControl.cutLoadings = st.cutLoadings := rfl
@[simp] theorem Station.emptyControl_schedule : st.emptyControl.schedule = st.schedule := rfl
@[simp] theorem Station.emptyControl_engine : st.emptyControl.engine = st.engine := rfl
@[simp] theorem Station.emptyControl_ctl : st.emptyControl.ctl = st.ctl := rfl
@[simp] theorem Station.emptyControl_peers : st.emptyControl.peers = st.peers := rfl
@[simp] theorem Station.emptyControl_link : st.emptyControl.link = { st.link with controlSlot := none } := rfl
@[simp] theorem Station.emptyControl_drive : st.emptyControl.drive = st.drive := rfl
@[simp] theorem Station.emptyControl_sup : st.emptyControl.sup = st.sup := rfl
@[simp] theorem Station.emptyControl_port : st.emptyControl.port = st.port := rfl
@[simp] theorem Station.emptyControl_events : st.emptyControl.events = st.events := rfl

/-! ### Station.refillBeat: filling the BEAT slot -/

@[simp] theorem Station.refillBeat_power : st.refillBeat.power = st.power := rfl
@[simp] theorem Station.refillBeat_resetLine : st.refillBeat.resetLine = st.resetLine := rfl
@[simp] theorem Station.refillBeat_estopLine : st.refillBeat.estopLine = st.estopLine := rfl
@[simp] theorem Station.refillBeat_startKind : st.refillBeat.startKind = st.startKind := rfl
@[simp] theorem Station.refillBeat_config : st.refillBeat.config = st.config := rfl
@[simp] theorem Station.refillBeat_store : st.refillBeat.store = st.store := rfl
@[simp] theorem Station.refillBeat_segments : st.refillBeat.segments = st.segments := rfl
@[simp] theorem Station.refillBeat_cutLoadings : st.refillBeat.cutLoadings = st.cutLoadings := rfl
@[simp] theorem Station.refillBeat_schedule : st.refillBeat.schedule = st.schedule := rfl
@[simp] theorem Station.refillBeat_engine : st.refillBeat.engine = st.engine := rfl
@[simp] theorem Station.refillBeat_ctl : st.refillBeat.ctl = st.ctl := rfl
@[simp] theorem Station.refillBeat_peers : st.refillBeat.peers = st.peers := rfl
@[simp] theorem Station.refillBeat_link : st.refillBeat.link = { st.link with beatSlot := true } := rfl
@[simp] theorem Station.refillBeat_drive : st.refillBeat.drive = st.drive := rfl
@[simp] theorem Station.refillBeat_sup : st.refillBeat.sup = st.sup := rfl
@[simp] theorem Station.refillBeat_port : st.refillBeat.port = st.port := rfl
@[simp] theorem Station.refillBeat_events : st.refillBeat.events = st.events := rfl

/-! ### Station.insertReason: adding a hold reason -/

@[simp] theorem Station.insertReason_power (r : HoldReason) : (st.insertReason r).power = st.power := rfl
@[simp] theorem Station.insertReason_resetLine (r : HoldReason) : (st.insertReason r).resetLine = st.resetLine := rfl
@[simp] theorem Station.insertReason_estopLine (r : HoldReason) : (st.insertReason r).estopLine = st.estopLine := rfl
@[simp] theorem Station.insertReason_startKind (r : HoldReason) : (st.insertReason r).startKind = st.startKind := rfl
@[simp] theorem Station.insertReason_config (r : HoldReason) : (st.insertReason r).config = st.config := rfl
@[simp] theorem Station.insertReason_store (r : HoldReason) : (st.insertReason r).store = st.store := rfl
@[simp] theorem Station.insertReason_segments (r : HoldReason) : (st.insertReason r).segments = st.segments := rfl
@[simp] theorem Station.insertReason_cutLoadings (r : HoldReason) : (st.insertReason r).cutLoadings = st.cutLoadings := rfl
@[simp] theorem Station.insertReason_schedule (r : HoldReason) : (st.insertReason r).schedule = st.schedule := rfl
@[simp] theorem Station.insertReason_engine (r : HoldReason) : (st.insertReason r).engine = st.engine := rfl
@[simp] theorem Station.insertReason_ctl (r : HoldReason) :
    (st.insertReason r).ctl = { st.ctl with reasons := addReasonBit st.ctl.reasons r } := rfl
@[simp] theorem Station.insertReason_peers (r : HoldReason) : (st.insertReason r).peers = st.peers := rfl
@[simp] theorem Station.insertReason_link (r : HoldReason) : (st.insertReason r).link = st.link := rfl
@[simp] theorem Station.insertReason_drive (r : HoldReason) : (st.insertReason r).drive = st.drive := rfl
@[simp] theorem Station.insertReason_sup (r : HoldReason) : (st.insertReason r).sup = st.sup := rfl
@[simp] theorem Station.insertReason_port (r : HoldReason) : (st.insertReason r).port = st.port := rfl
@[simp] theorem Station.insertReason_events (r : HoldReason) : (st.insertReason r).events = st.events := rfl

/-! ### Station.forceOffset: forcing the offset -/

@[simp] theorem Station.forceOffset_power (cfg : ConfigRecord) : (st.forceOffset cfg).power = st.power := rfl
@[simp] theorem Station.forceOffset_resetLine (cfg : ConfigRecord) : (st.forceOffset cfg).resetLine = st.resetLine := rfl
@[simp] theorem Station.forceOffset_estopLine (cfg : ConfigRecord) : (st.forceOffset cfg).estopLine = st.estopLine := rfl
@[simp] theorem Station.forceOffset_startKind (cfg : ConfigRecord) : (st.forceOffset cfg).startKind = st.startKind := rfl
@[simp] theorem Station.forceOffset_config (cfg : ConfigRecord) : (st.forceOffset cfg).config = st.config := rfl
@[simp] theorem Station.forceOffset_store (cfg : ConfigRecord) : (st.forceOffset cfg).store = st.store := rfl
@[simp] theorem Station.forceOffset_segments (cfg : ConfigRecord) : (st.forceOffset cfg).segments = st.segments := rfl
@[simp] theorem Station.forceOffset_cutLoadings (cfg : ConfigRecord) : (st.forceOffset cfg).cutLoadings = st.cutLoadings := rfl
@[simp] theorem Station.forceOffset_schedule (cfg : ConfigRecord) : (st.forceOffset cfg).schedule = st.schedule := rfl
@[simp] theorem Station.forceOffset_engine (cfg : ConfigRecord) : (st.forceOffset cfg).engine = { st.engine with
      regs := st.engine.regs.map fun r => { r with fade := 0, command := offset cfg, commandPrev := offset cfg }
      offered := some { command := offset cfg, previous := offset cfg } } := rfl
@[simp] theorem Station.forceOffset_ctl (cfg : ConfigRecord) : (st.forceOffset cfg).ctl = st.ctl := rfl
@[simp] theorem Station.forceOffset_peers (cfg : ConfigRecord) : (st.forceOffset cfg).peers = st.peers := rfl
@[simp] theorem Station.forceOffset_link (cfg : ConfigRecord) : (st.forceOffset cfg).link = st.link := rfl
@[simp] theorem Station.forceOffset_drive (cfg : ConfigRecord) : (st.forceOffset cfg).drive = st.drive := rfl
@[simp] theorem Station.forceOffset_sup (cfg : ConfigRecord) : (st.forceOffset cfg).sup = st.sup := rfl
@[simp] theorem Station.forceOffset_port (cfg : ConfigRecord) : (st.forceOffset cfg).port = st.port := rfl
@[simp] theorem Station.forceOffset_events (cfg : ConfigRecord) : (st.forceOffset cfg).events = st.events := rfl

/-! ### Station.setPosition: setting the position -/

@[simp] theorem Station.setPosition_power (p : Position) : (st.setPosition p).power = st.power := rfl
@[simp] theorem Station.setPosition_resetLine (p : Position) : (st.setPosition p).resetLine = st.resetLine := rfl
@[simp] theorem Station.setPosition_estopLine (p : Position) : (st.setPosition p).estopLine = st.estopLine := rfl
@[simp] theorem Station.setPosition_startKind (p : Position) : (st.setPosition p).startKind = st.startKind := rfl
@[simp] theorem Station.setPosition_config (p : Position) : (st.setPosition p).config = st.config := rfl
@[simp] theorem Station.setPosition_store (p : Position) : (st.setPosition p).store = st.store := rfl
@[simp] theorem Station.setPosition_segments (p : Position) : (st.setPosition p).segments = st.segments := rfl
@[simp] theorem Station.setPosition_cutLoadings (p : Position) : (st.setPosition p).cutLoadings = st.cutLoadings := rfl
@[simp] theorem Station.setPosition_schedule (p : Position) : (st.setPosition p).schedule = st.schedule := rfl
@[simp] theorem Station.setPosition_engine (p : Position) :
    (st.setPosition p).engine = { st.engine with position := some p } := rfl
@[simp] theorem Station.setPosition_ctl (p : Position) : (st.setPosition p).ctl = st.ctl := rfl
@[simp] theorem Station.setPosition_peers (p : Position) : (st.setPosition p).peers = st.peers := rfl
@[simp] theorem Station.setPosition_link (p : Position) : (st.setPosition p).link = st.link := rfl
@[simp] theorem Station.setPosition_drive (p : Position) : (st.setPosition p).drive = st.drive := rfl
@[simp] theorem Station.setPosition_sup (p : Position) : (st.setPosition p).sup = st.sup := rfl
@[simp] theorem Station.setPosition_port (p : Position) : (st.setPosition p).port = st.port := rfl
@[simp] theorem Station.setPosition_events (p : Position) : (st.setPosition p).events = st.events := rfl

/-! ### Station.zeroFade: zeroing the fade gain -/

@[simp] theorem Station.zeroFade_power : st.zeroFade.power = st.power := rfl
@[simp] theorem Station.zeroFade_resetLine : st.zeroFade.resetLine = st.resetLine := rfl
@[simp] theorem Station.zeroFade_estopLine : st.zeroFade.estopLine = st.estopLine := rfl
@[simp] theorem Station.zeroFade_startKind : st.zeroFade.startKind = st.startKind := rfl
@[simp] theorem Station.zeroFade_config : st.zeroFade.config = st.config := rfl
@[simp] theorem Station.zeroFade_store : st.zeroFade.store = st.store := rfl
@[simp] theorem Station.zeroFade_segments : st.zeroFade.segments = st.segments := rfl
@[simp] theorem Station.zeroFade_cutLoadings : st.zeroFade.cutLoadings = st.cutLoadings := rfl
@[simp] theorem Station.zeroFade_schedule : st.zeroFade.schedule = st.schedule := rfl
@[simp] theorem Station.zeroFade_engine :
    st.zeroFade.engine = { st.engine with regs := st.engine.regs.map fun r => { r with fade := 0 } } := rfl
@[simp] theorem Station.zeroFade_ctl : st.zeroFade.ctl = st.ctl := rfl
@[simp] theorem Station.zeroFade_peers : st.zeroFade.peers = st.peers := rfl
@[simp] theorem Station.zeroFade_link : st.zeroFade.link = st.link := rfl
@[simp] theorem Station.zeroFade_drive : st.zeroFade.drive = st.drive := rfl
@[simp] theorem Station.zeroFade_sup : st.zeroFade.sup = st.sup := rfl
@[simp] theorem Station.zeroFade_port : st.zeroFade.port = st.port := rfl
@[simp] theorem Station.zeroFade_events : st.zeroFade.events = st.events := rfl

/-! ### Station.setEngine: writing the engine's registers and its offer -/

@[simp] theorem Station.setEngine_power (r : EngineRegs) (o : Offer) : (st.setEngine r o).power = st.power := rfl
@[simp] theorem Station.setEngine_resetLine (r : EngineRegs) (o : Offer) : (st.setEngine r o).resetLine = st.resetLine := rfl
@[simp] theorem Station.setEngine_estopLine (r : EngineRegs) (o : Offer) : (st.setEngine r o).estopLine = st.estopLine := rfl
@[simp] theorem Station.setEngine_startKind (r : EngineRegs) (o : Offer) : (st.setEngine r o).startKind = st.startKind := rfl
@[simp] theorem Station.setEngine_config (r : EngineRegs) (o : Offer) : (st.setEngine r o).config = st.config := rfl
@[simp] theorem Station.setEngine_store (r : EngineRegs) (o : Offer) : (st.setEngine r o).store = st.store := rfl
@[simp] theorem Station.setEngine_segments (r : EngineRegs) (o : Offer) : (st.setEngine r o).segments = st.segments := rfl
@[simp] theorem Station.setEngine_cutLoadings (r : EngineRegs) (o : Offer) :
    (st.setEngine r o).cutLoadings = st.cutLoadings := rfl
@[simp] theorem Station.setEngine_schedule (r : EngineRegs) (o : Offer) : (st.setEngine r o).schedule = st.schedule := rfl
@[simp] theorem Station.setEngine_engine (r : EngineRegs) (o : Offer) :
    (st.setEngine r o).engine = { st.engine with regs := some r, offered := some o } := rfl
@[simp] theorem Station.setEngine_ctl (r : EngineRegs) (o : Offer) : (st.setEngine r o).ctl = st.ctl := rfl
@[simp] theorem Station.setEngine_peers (r : EngineRegs) (o : Offer) : (st.setEngine r o).peers = st.peers := rfl
@[simp] theorem Station.setEngine_link (r : EngineRegs) (o : Offer) : (st.setEngine r o).link = st.link := rfl
@[simp] theorem Station.setEngine_drive (r : EngineRegs) (o : Offer) : (st.setEngine r o).drive = st.drive := rfl
@[simp] theorem Station.setEngine_sup (r : EngineRegs) (o : Offer) : (st.setEngine r o).sup = st.sup := rfl
@[simp] theorem Station.setEngine_port (r : EngineRegs) (o : Offer) : (st.setEngine r o).port = st.port := rfl
@[simp] theorem Station.setEngine_events (r : EngineRegs) (o : Offer) : (st.setEngine r o).events = st.events := rfl

/-! ### Station.answer: answering a request -/

@[simp] theorem Station.answer_power (k : Byte) (c : ResultCode) (b : List Byte) : (st.answer k c b).power = st.power := rfl
@[simp] theorem Station.answer_resetLine (k : Byte) (c : ResultCode) (b : List Byte) :
    (st.answer k c b).resetLine = st.resetLine := rfl
@[simp] theorem Station.answer_estopLine (k : Byte) (c : ResultCode) (b : List Byte) :
    (st.answer k c b).estopLine = st.estopLine := rfl
@[simp] theorem Station.answer_startKind (k : Byte) (c : ResultCode) (b : List Byte) :
    (st.answer k c b).startKind = st.startKind := rfl
@[simp] theorem Station.answer_config (k : Byte) (c : ResultCode) (b : List Byte) : (st.answer k c b).config = st.config := rfl
@[simp] theorem Station.answer_store (k : Byte) (c : ResultCode) (b : List Byte) : (st.answer k c b).store = st.store := rfl
@[simp] theorem Station.answer_segments (k : Byte) (c : ResultCode) (b : List Byte) :
    (st.answer k c b).segments = st.segments := rfl
@[simp] theorem Station.answer_cutLoadings (k : Byte) (c : ResultCode) (b : List Byte) :
    (st.answer k c b).cutLoadings = st.cutLoadings := rfl
@[simp] theorem Station.answer_schedule (k : Byte) (c : ResultCode) (b : List Byte) :
    (st.answer k c b).schedule = st.schedule := rfl
@[simp] theorem Station.answer_engine (k : Byte) (c : ResultCode) (b : List Byte) : (st.answer k c b).engine = st.engine := rfl
@[simp] theorem Station.answer_ctl (k : Byte) (c : ResultCode) (b : List Byte) : (st.answer k c b).ctl = st.ctl := rfl
@[simp] theorem Station.answer_peers (k : Byte) (c : ResultCode) (b : List Byte) : (st.answer k c b).peers = st.peers := rfl
@[simp] theorem Station.answer_link (k : Byte) (c : ResultCode) (b : List Byte) : (st.answer k c b).link = st.link := rfl
@[simp] theorem Station.answer_drive (k : Byte) (c : ResultCode) (b : List Byte) : (st.answer k c b).drive = st.drive := rfl
@[simp] theorem Station.answer_sup (k : Byte) (c : ResultCode) (b : List Byte) : (st.answer k c b).sup = st.sup := rfl
@[simp] theorem Station.answer_port (k : Byte) (c : ResultCode) (b : List Byte) :
    (st.answer k c b).port = st.port.answer { kind := k, code := c, body := b } := rfl
@[simp] theorem Station.answer_events (k : Byte) (c : ResultCode) (b : List Byte) : (st.answer k c b).events = st.events := rfl

/-! ### Station.setPeer: setting a peer entry -/

@[simp] theorem Station.setPeer_power (k : StationNo) (e : PeerEntry) : (st.setPeer k e).power = st.power := rfl
@[simp] theorem Station.setPeer_resetLine (k : StationNo) (e : PeerEntry) : (st.setPeer k e).resetLine = st.resetLine := rfl
@[simp] theorem Station.setPeer_estopLine (k : StationNo) (e : PeerEntry) : (st.setPeer k e).estopLine = st.estopLine := rfl
@[simp] theorem Station.setPeer_startKind (k : StationNo) (e : PeerEntry) : (st.setPeer k e).startKind = st.startKind := rfl
@[simp] theorem Station.setPeer_config (k : StationNo) (e : PeerEntry) : (st.setPeer k e).config = st.config := rfl
@[simp] theorem Station.setPeer_store (k : StationNo) (e : PeerEntry) : (st.setPeer k e).store = st.store := rfl
@[simp] theorem Station.setPeer_segments (k : StationNo) (e : PeerEntry) : (st.setPeer k e).segments = st.segments := rfl
@[simp] theorem Station.setPeer_cutLoadings (k : StationNo) (e : PeerEntry) :
    (st.setPeer k e).cutLoadings = st.cutLoadings := rfl
@[simp] theorem Station.setPeer_schedule (k : StationNo) (e : PeerEntry) : (st.setPeer k e).schedule = st.schedule := rfl
@[simp] theorem Station.setPeer_engine (k : StationNo) (e : PeerEntry) : (st.setPeer k e).engine = st.engine := rfl
@[simp] theorem Station.setPeer_ctl (k : StationNo) (e : PeerEntry) : (st.setPeer k e).ctl = st.ctl := rfl
@[simp] theorem Station.setPeer_peers (k : StationNo) (e : PeerEntry) :
    (st.setPeer k e).peers = { st.peers with entries := st.peers.entries.set k (some e) } := rfl
@[simp] theorem Station.setPeer_link (k : StationNo) (e : PeerEntry) : (st.setPeer k e).link = st.link := rfl
@[simp] theorem Station.setPeer_drive (k : StationNo) (e : PeerEntry) : (st.setPeer k e).drive = st.drive := rfl
@[simp] theorem Station.setPeer_sup (k : StationNo) (e : PeerEntry) : (st.setPeer k e).sup = st.sup := rfl
@[simp] theorem Station.setPeer_port (k : StationNo) (e : PeerEntry) : (st.setPeer k e).port = st.port := rfl
@[simp] theorem Station.setPeer_events (k : StationNo) (e : PeerEntry) : (st.setPeer k e).events = st.events := rfl

/-! ### Station.clearRunMarks: clearing the run marks -/

@[simp] theorem Station.clearRunMarks_power : st.clearRunMarks.power = st.power := rfl
@[simp] theorem Station.clearRunMarks_resetLine : st.clearRunMarks.resetLine = st.resetLine := rfl
@[simp] theorem Station.clearRunMarks_estopLine : st.clearRunMarks.estopLine = st.estopLine := rfl
@[simp] theorem Station.clearRunMarks_startKind : st.clearRunMarks.startKind = st.startKind := rfl
@[simp] theorem Station.clearRunMarks_config : st.clearRunMarks.config = st.config := rfl
@[simp] theorem Station.clearRunMarks_store : st.clearRunMarks.store = st.store := rfl
@[simp] theorem Station.clearRunMarks_segments : st.clearRunMarks.segments = st.segments := rfl
@[simp] theorem Station.clearRunMarks_cutLoadings : st.clearRunMarks.cutLoadings = st.cutLoadings := rfl
@[simp] theorem Station.clearRunMarks_schedule : st.clearRunMarks.schedule = st.schedule := rfl
@[simp] theorem Station.clearRunMarks_engine : st.clearRunMarks.engine = st.engine := rfl
@[simp] theorem Station.clearRunMarks_ctl : st.clearRunMarks.ctl = st.ctl := rfl
@[simp] theorem Station.clearRunMarks_peers :
    st.clearRunMarks.peers = { st.peers with entries := st.peers.entries.map fun e => e.map fun x => { x with runMark := false } } := rfl
@[simp] theorem Station.clearRunMarks_link : st.clearRunMarks.link = st.link := rfl
@[simp] theorem Station.clearRunMarks_drive : st.clearRunMarks.drive = st.drive := rfl
@[simp] theorem Station.clearRunMarks_sup : st.clearRunMarks.sup = st.sup := rfl
@[simp] theorem Station.clearRunMarks_port : st.clearRunMarks.port = st.port := rfl
@[simp] theorem Station.clearRunMarks_events : st.clearRunMarks.events = st.events := rfl

/-! ### Station.recomputeShare: computing the own share -/

@[simp] theorem Station.recomputeShare_power (cfg : ConfigRecord) (f : Int) : (st.recomputeShare cfg f).power = st.power := rfl
@[simp] theorem Station.recomputeShare_resetLine (cfg : ConfigRecord) (f : Int) :
    (st.recomputeShare cfg f).resetLine = st.resetLine := rfl
@[simp] theorem Station.recomputeShare_estopLine (cfg : ConfigRecord) (f : Int) :
    (st.recomputeShare cfg f).estopLine = st.estopLine := rfl
@[simp] theorem Station.recomputeShare_startKind (cfg : ConfigRecord) (f : Int) :
    (st.recomputeShare cfg f).startKind = st.startKind := rfl
@[simp] theorem Station.recomputeShare_config (cfg : ConfigRecord) (f : Int) :
    (st.recomputeShare cfg f).config = st.config := rfl
@[simp] theorem Station.recomputeShare_store (cfg : ConfigRecord) (f : Int) : (st.recomputeShare cfg f).store = st.store := rfl
@[simp] theorem Station.recomputeShare_segments (cfg : ConfigRecord) (f : Int) :
    (st.recomputeShare cfg f).segments = st.segments := rfl
@[simp] theorem Station.recomputeShare_cutLoadings (cfg : ConfigRecord) (f : Int) :
    (st.recomputeShare cfg f).cutLoadings = st.cutLoadings := rfl
@[simp] theorem Station.recomputeShare_schedule (cfg : ConfigRecord) (f : Int) :
    (st.recomputeShare cfg f).schedule = st.schedule := rfl
@[simp] theorem Station.recomputeShare_engine (cfg : ConfigRecord) (f : Int) :
    (st.recomputeShare cfg f).engine = st.engine := rfl
@[simp] theorem Station.recomputeShare_ctl (cfg : ConfigRecord) (f : Int) : (st.recomputeShare cfg f).ctl = st.ctl := rfl
@[simp] theorem Station.recomputeShare_peers (cfg : ConfigRecord) (f : Int) :
    (st.recomputeShare cfg f).peers = { st.peers with ownShare := loadShare cfg f } := rfl
@[simp] theorem Station.recomputeShare_link (cfg : ConfigRecord) (f : Int) : (st.recomputeShare cfg f).link = st.link := rfl
@[simp] theorem Station.recomputeShare_drive (cfg : ConfigRecord) (f : Int) : (st.recomputeShare cfg f).drive = st.drive := rfl
@[simp] theorem Station.recomputeShare_sup (cfg : ConfigRecord) (f : Int) : (st.recomputeShare cfg f).sup = st.sup := rfl
@[simp] theorem Station.recomputeShare_port (cfg : ConfigRecord) (f : Int) : (st.recomputeShare cfg f).port = st.port := rfl
@[simp] theorem Station.recomputeShare_events (cfg : ConfigRecord) (f : Int) :
    (st.recomputeShare cfg f).events = st.events := rfl

/-! ### Station.setTrack: setting the tracking counter -/

@[simp] theorem Station.setTrack_power (n : Nat) : (st.setTrack n).power = st.power := rfl
@[simp] theorem Station.setTrack_resetLine (n : Nat) : (st.setTrack n).resetLine = st.resetLine := rfl
@[simp] theorem Station.setTrack_estopLine (n : Nat) : (st.setTrack n).estopLine = st.estopLine := rfl
@[simp] theorem Station.setTrack_startKind (n : Nat) : (st.setTrack n).startKind = st.startKind := rfl
@[simp] theorem Station.setTrack_config (n : Nat) : (st.setTrack n).config = st.config := rfl
@[simp] theorem Station.setTrack_store (n : Nat) : (st.setTrack n).store = st.store := rfl
@[simp] theorem Station.setTrack_segments (n : Nat) : (st.setTrack n).segments = st.segments := rfl
@[simp] theorem Station.setTrack_cutLoadings (n : Nat) : (st.setTrack n).cutLoadings = st.cutLoadings := rfl
@[simp] theorem Station.setTrack_schedule (n : Nat) : (st.setTrack n).schedule = st.schedule := rfl
@[simp] theorem Station.setTrack_engine (n : Nat) : (st.setTrack n).engine = st.engine := rfl
@[simp] theorem Station.setTrack_ctl (n : Nat) : (st.setTrack n).ctl = st.ctl := rfl
@[simp] theorem Station.setTrack_peers (n : Nat) : (st.setTrack n).peers = st.peers := rfl
@[simp] theorem Station.setTrack_link (n : Nat) : (st.setTrack n).link = st.link := rfl
@[simp] theorem Station.setTrack_drive (n : Nat) : (st.setTrack n).drive = st.drive := rfl
@[simp] theorem Station.setTrack_sup (n : Nat) : (st.setTrack n).sup = { st.sup with trackCount := n } := rfl
@[simp] theorem Station.setTrack_port (n : Nat) : (st.setTrack n).port = st.port := rfl
@[simp] theorem Station.setTrack_events (n : Nat) : (st.setTrack n).events = st.events := rfl

/-! ### Station.estopFalls: taking ESTOP as inactive -/

@[simp] theorem Station.estopFalls_power : st.estopFalls.power = st.power := rfl
@[simp] theorem Station.estopFalls_resetLine : st.estopFalls.resetLine = st.resetLine := rfl
@[simp] theorem Station.estopFalls_estopLine : st.estopFalls.estopLine = st.estopLine := rfl
@[simp] theorem Station.estopFalls_startKind : st.estopFalls.startKind = st.startKind := rfl
@[simp] theorem Station.estopFalls_config : st.estopFalls.config = st.config := rfl
@[simp] theorem Station.estopFalls_store : st.estopFalls.store = st.store := rfl
@[simp] theorem Station.estopFalls_segments : st.estopFalls.segments = st.segments := rfl
@[simp] theorem Station.estopFalls_cutLoadings : st.estopFalls.cutLoadings = st.cutLoadings := rfl
@[simp] theorem Station.estopFalls_schedule : st.estopFalls.schedule = st.schedule := rfl
@[simp] theorem Station.estopFalls_engine : st.estopFalls.engine = st.engine := rfl
@[simp] theorem Station.estopFalls_ctl : st.estopFalls.ctl = st.ctl := rfl
@[simp] theorem Station.estopFalls_peers : st.estopFalls.peers = st.peers := rfl
@[simp] theorem Station.estopFalls_link : st.estopFalls.link = st.link := rfl
@[simp] theorem Station.estopFalls_drive : st.estopFalls.drive = st.drive := rfl
@[simp] theorem Station.estopFalls_sup : st.estopFalls.sup = { st.sup with estopTaken := some false } := rfl
@[simp] theorem Station.estopFalls_port : st.estopFalls.port = st.port := rfl
@[simp] theorem Station.estopFalls_events : st.estopFalls.events = st.events := rfl

/-! ### Station.heard: a valid response -/

@[simp] theorem Station.heard_power : st.heard.power = st.power := rfl
@[simp] theorem Station.heard_resetLine : st.heard.resetLine = st.resetLine := rfl
@[simp] theorem Station.heard_estopLine : st.heard.estopLine = st.estopLine := rfl
@[simp] theorem Station.heard_startKind : st.heard.startKind = st.startKind := rfl
@[simp] theorem Station.heard_config : st.heard.config = st.config := rfl
@[simp] theorem Station.heard_store : st.heard.store = st.store := rfl
@[simp] theorem Station.heard_segments : st.heard.segments = st.segments := rfl
@[simp] theorem Station.heard_cutLoadings : st.heard.cutLoadings = st.cutLoadings := rfl
@[simp] theorem Station.heard_schedule : st.heard.schedule = st.schedule := rfl
@[simp] theorem Station.heard_engine : st.heard.engine = st.engine := rfl
@[simp] theorem Station.heard_ctl : st.heard.ctl = st.ctl := rfl
@[simp] theorem Station.heard_peers : st.heard.peers = st.peers := rfl
@[simp] theorem Station.heard_link : st.heard.link = st.link := rfl
@[simp] theorem Station.heard_drive : st.heard.drive = { st.drive with silence := some 0 } := rfl
@[simp] theorem Station.heard_sup : st.heard.sup = st.sup := rfl
@[simp] theorem Station.heard_port : st.heard.port = st.port := rfl
@[simp] theorem Station.heard_events : st.heard.events = st.events := rfl

/-! ### Station.countSilence: counting silence -/

@[simp] theorem Station.countSilence_power : st.countSilence.power = st.power := rfl
@[simp] theorem Station.countSilence_resetLine : st.countSilence.resetLine = st.resetLine := rfl
@[simp] theorem Station.countSilence_estopLine : st.countSilence.estopLine = st.estopLine := rfl
@[simp] theorem Station.countSilence_startKind : st.countSilence.startKind = st.startKind := rfl
@[simp] theorem Station.countSilence_config : st.countSilence.config = st.config := rfl
@[simp] theorem Station.countSilence_store : st.countSilence.store = st.store := rfl
@[simp] theorem Station.countSilence_segments : st.countSilence.segments = st.segments := rfl
@[simp] theorem Station.countSilence_cutLoadings : st.countSilence.cutLoadings = st.cutLoadings := rfl
@[simp] theorem Station.countSilence_schedule : st.countSilence.schedule = st.schedule := rfl
@[simp] theorem Station.countSilence_engine : st.countSilence.engine = st.engine := rfl
@[simp] theorem Station.countSilence_ctl : st.countSilence.ctl = st.ctl := rfl
@[simp] theorem Station.countSilence_peers : st.countSilence.peers = st.peers := rfl
@[simp] theorem Station.countSilence_link : st.countSilence.link = st.link := rfl
@[simp] theorem Station.countSilence_drive :
    st.countSilence.drive = { st.drive with silence := st.drive.silence.map fun n => min silenceBound (n + 1) } := rfl
@[simp] theorem Station.countSilence_sup : st.countSilence.sup = st.sup := rfl
@[simp] theorem Station.countSilence_port : st.countSilence.port = st.port := rfl
@[simp] theorem Station.countSilence_events : st.countSilence.events = st.events := rfl

/-! ### Station.countSideLoss: counting a lost side reply -/

@[simp] theorem Station.countSideLoss_power : st.countSideLoss.power = st.power := rfl
@[simp] theorem Station.countSideLoss_resetLine : st.countSideLoss.resetLine = st.resetLine := rfl
@[simp] theorem Station.countSideLoss_estopLine : st.countSideLoss.estopLine = st.estopLine := rfl
@[simp] theorem Station.countSideLoss_startKind : st.countSideLoss.startKind = st.startKind := rfl
@[simp] theorem Station.countSideLoss_config : st.countSideLoss.config = st.config := rfl
@[simp] theorem Station.countSideLoss_store : st.countSideLoss.store = st.store := rfl
@[simp] theorem Station.countSideLoss_segments : st.countSideLoss.segments = st.segments := rfl
@[simp] theorem Station.countSideLoss_cutLoadings : st.countSideLoss.cutLoadings = st.cutLoadings := rfl
@[simp] theorem Station.countSideLoss_schedule : st.countSideLoss.schedule = st.schedule := rfl
@[simp] theorem Station.countSideLoss_engine : st.countSideLoss.engine = st.engine := rfl
@[simp] theorem Station.countSideLoss_ctl : st.countSideLoss.ctl = st.ctl := rfl
@[simp] theorem Station.countSideLoss_peers : st.countSideLoss.peers = st.peers := rfl
@[simp] theorem Station.countSideLoss_link : st.countSideLoss.link = st.link := rfl
@[simp] theorem Station.countSideLoss_drive :
    st.countSideLoss.drive = { st.drive with sideLoss := min 255 (st.drive.sideLoss + 1) } := rfl
@[simp] theorem Station.countSideLoss_sup : st.countSideLoss.sup = st.sup := rfl
@[simp] theorem Station.countSideLoss_port : st.countSideLoss.port = st.port := rfl
@[simp] theorem Station.countSideLoss_events : st.countSideLoss.events = st.events := rfl

/-! ### Station.setBand: changing the band -/

@[simp] theorem Station.setBand_power (b : Band) (w : BitVec 32) : (st.setBand b w).power = st.power := rfl
@[simp] theorem Station.setBand_resetLine (b : Band) (w : BitVec 32) : (st.setBand b w).resetLine = st.resetLine := rfl
@[simp] theorem Station.setBand_estopLine (b : Band) (w : BitVec 32) : (st.setBand b w).estopLine = st.estopLine := rfl
@[simp] theorem Station.setBand_startKind (b : Band) (w : BitVec 32) : (st.setBand b w).startKind = st.startKind := rfl
@[simp] theorem Station.setBand_config (b : Band) (w : BitVec 32) : (st.setBand b w).config = st.config := rfl
@[simp] theorem Station.setBand_store (b : Band) (w : BitVec 32) : (st.setBand b w).store = st.store := rfl
@[simp] theorem Station.setBand_segments (b : Band) (w : BitVec 32) : (st.setBand b w).segments = st.segments := rfl
@[simp] theorem Station.setBand_cutLoadings (b : Band) (w : BitVec 32) : (st.setBand b w).cutLoadings = st.cutLoadings := rfl
@[simp] theorem Station.setBand_schedule (b : Band) (w : BitVec 32) : (st.setBand b w).schedule = st.schedule := rfl
@[simp] theorem Station.setBand_engine (b : Band) (w : BitVec 32) : (st.setBand b w).engine = st.engine := rfl
@[simp] theorem Station.setBand_ctl (b : Band) (w : BitVec 32) : (st.setBand b w).ctl = st.ctl := rfl
@[simp] theorem Station.setBand_peers (b : Band) (w : BitVec 32) : (st.setBand b w).peers = st.peers := rfl
@[simp] theorem Station.setBand_link (b : Band) (w : BitVec 32) : (st.setBand b w).link = st.link := rfl
@[simp] theorem Station.setBand_drive (b : Band) (w : BitVec 32) :
    (st.setBand b w).drive = { st.drive with band := some b, autoSlot := some w } := rfl
@[simp] theorem Station.setBand_sup (b : Band) (w : BitVec 32) : (st.setBand b w).sup = st.sup := rfl
@[simp] theorem Station.setBand_port (b : Band) (w : BitVec 32) : (st.setBand b w).port = st.port := rfl
@[simp] theorem Station.setBand_events (b : Band) (w : BitVec 32) : (st.setBand b w).events = st.events := rfl

/-! ### Station.discardPartial: discarding a partial frame -/

@[simp] theorem Station.discardPartial_power : st.discardPartial.power = st.power := rfl
@[simp] theorem Station.discardPartial_resetLine : st.discardPartial.resetLine = st.resetLine := rfl
@[simp] theorem Station.discardPartial_estopLine : st.discardPartial.estopLine = st.estopLine := rfl
@[simp] theorem Station.discardPartial_startKind : st.discardPartial.startKind = st.startKind := rfl
@[simp] theorem Station.discardPartial_config : st.discardPartial.config = st.config := rfl
@[simp] theorem Station.discardPartial_store : st.discardPartial.store = st.store := rfl
@[simp] theorem Station.discardPartial_segments : st.discardPartial.segments = st.segments := rfl
@[simp] theorem Station.discardPartial_cutLoadings : st.discardPartial.cutLoadings = st.cutLoadings := rfl
@[simp] theorem Station.discardPartial_schedule : st.discardPartial.schedule = st.schedule := rfl
@[simp] theorem Station.discardPartial_engine : st.discardPartial.engine = st.engine := rfl
@[simp] theorem Station.discardPartial_ctl : st.discardPartial.ctl = st.ctl := rfl
@[simp] theorem Station.discardPartial_peers : st.discardPartial.peers = st.peers := rfl
@[simp] theorem Station.discardPartial_link : st.discardPartial.link = st.link := rfl
@[simp] theorem Station.discardPartial_drive : st.discardPartial.drive = st.drive := rfl
@[simp] theorem Station.discardPartial_sup : st.discardPartial.sup = st.sup := rfl
@[simp] theorem Station.discardPartial_port :
    st.discardPartial.port = { st.port with receiver := .hunting, partialTimer := none } := rfl
@[simp] theorem Station.discardPartial_events : st.discardPartial.events = st.events := rfl

/-! ### Station.endAttempt: ending an attempt -/

@[simp] theorem Station.endAttempt_power : st.endAttempt.power = st.power := rfl
@[simp] theorem Station.endAttempt_resetLine : st.endAttempt.resetLine = st.resetLine := rfl
@[simp] theorem Station.endAttempt_estopLine : st.endAttempt.estopLine = st.estopLine := rfl
@[simp] theorem Station.endAttempt_startKind : st.endAttempt.startKind = st.startKind := rfl
@[simp] theorem Station.endAttempt_config : st.endAttempt.config = st.config := rfl
@[simp] theorem Station.endAttempt_store : st.endAttempt.store = st.store := rfl
@[simp] theorem Station.endAttempt_segments : st.endAttempt.segments = st.segments := rfl
@[simp] theorem Station.endAttempt_cutLoadings : st.endAttempt.cutLoadings = st.cutLoadings := rfl
@[simp] theorem Station.endAttempt_schedule : st.endAttempt.schedule = st.schedule := rfl
@[simp] theorem Station.endAttempt_engine : st.endAttempt.engine = st.engine := rfl
@[simp] theorem Station.endAttempt_ctl : st.endAttempt.ctl = st.ctl := rfl
@[simp] theorem Station.endAttempt_peers : st.endAttempt.peers = st.peers := rfl
@[simp] theorem Station.endAttempt_link : st.endAttempt.link = { st.link with
      attempt := none
      tripSlot := st.link.tripSlot.map (SlotFrame.withLatch false)
      controlSlot := st.link.controlSlot.map (SlotFrame.withLatch false) } := rfl
@[simp] theorem Station.endAttempt_drive : st.endAttempt.drive = st.drive := rfl
@[simp] theorem Station.endAttempt_sup : st.endAttempt.sup = st.sup := rfl
@[simp] theorem Station.endAttempt_port : st.endAttempt.port = st.port := rfl
@[simp] theorem Station.endAttempt_events : st.endAttempt.events = st.events := rfl

/-! ### Station.stopAborted: stopping an attempt with an abort -/

@[simp] theorem Station.stopAborted_power : st.stopAborted.power = st.power := rfl
@[simp] theorem Station.stopAborted_resetLine : st.stopAborted.resetLine = st.resetLine := rfl
@[simp] theorem Station.stopAborted_estopLine : st.stopAborted.estopLine = st.estopLine := rfl
@[simp] theorem Station.stopAborted_startKind : st.stopAborted.startKind = st.startKind := rfl
@[simp] theorem Station.stopAborted_config : st.stopAborted.config = st.config := rfl
@[simp] theorem Station.stopAborted_store : st.stopAborted.store = st.store := rfl
@[simp] theorem Station.stopAborted_segments : st.stopAborted.segments = st.segments := rfl
@[simp] theorem Station.stopAborted_cutLoadings : st.stopAborted.cutLoadings = st.cutLoadings := rfl
@[simp] theorem Station.stopAborted_schedule : st.stopAborted.schedule = st.schedule := rfl
@[simp] theorem Station.stopAborted_engine : st.stopAborted.engine = st.engine := rfl
@[simp] theorem Station.stopAborted_ctl : st.stopAborted.ctl = st.ctl := rfl
@[simp] theorem Station.stopAborted_peers : st.stopAborted.peers = st.peers := rfl
@[simp] theorem Station.stopAborted_link : st.stopAborted.link = { st.link with
      attempt := none
      tripSlot := st.link.tripSlot.map (SlotFrame.withLatch false)
      controlSlot := st.link.controlSlot.map (SlotFrame.withLatch false)
      ownAborted := true } := rfl
@[simp] theorem Station.stopAborted_drive : st.stopAborted.drive = st.drive := rfl
@[simp] theorem Station.stopAborted_sup : st.stopAborted.sup = st.sup := rfl
@[simp] theorem Station.stopAborted_port : st.stopAborted.port = st.port := rfl
@[simp] theorem Station.stopAborted_events : st.stopAborted.events = st.events := rfl

/-! ### Station.abortOver: the own aborted frame is over -/

@[simp] theorem Station.abortOver_power : st.abortOver.power = st.power := rfl
@[simp] theorem Station.abortOver_resetLine : st.abortOver.resetLine = st.resetLine := rfl
@[simp] theorem Station.abortOver_estopLine : st.abortOver.estopLine = st.estopLine := rfl
@[simp] theorem Station.abortOver_startKind : st.abortOver.startKind = st.startKind := rfl
@[simp] theorem Station.abortOver_config : st.abortOver.config = st.config := rfl
@[simp] theorem Station.abortOver_store : st.abortOver.store = st.store := rfl
@[simp] theorem Station.abortOver_segments : st.abortOver.segments = st.segments := rfl
@[simp] theorem Station.abortOver_cutLoadings : st.abortOver.cutLoadings = st.cutLoadings := rfl
@[simp] theorem Station.abortOver_schedule : st.abortOver.schedule = st.schedule := rfl
@[simp] theorem Station.abortOver_engine : st.abortOver.engine = st.engine := rfl
@[simp] theorem Station.abortOver_ctl : st.abortOver.ctl = st.ctl := rfl
@[simp] theorem Station.abortOver_peers : st.abortOver.peers = st.peers := rfl
@[simp] theorem Station.abortOver_link : st.abortOver.link = { st.link with ownAborted := false } := rfl
@[simp] theorem Station.abortOver_drive : st.abortOver.drive = st.drive := rfl
@[simp] theorem Station.abortOver_sup : st.abortOver.sup = st.sup := rfl
@[simp] theorem Station.abortOver_port : st.abortOver.port = st.port := rfl
@[simp] theorem Station.abortOver_events : st.abortOver.events = st.events := rfl

/-! ### Station.takeSideReply: a side reply -/

@[simp] theorem Station.takeSideReply_power (bits : BitVec 48) : (st.takeSideReply bits).power = st.power := rfl
@[simp] theorem Station.takeSideReply_resetLine (bits : BitVec 48) : (st.takeSideReply bits).resetLine = st.resetLine := rfl
@[simp] theorem Station.takeSideReply_estopLine (bits : BitVec 48) : (st.takeSideReply bits).estopLine = st.estopLine := rfl
@[simp] theorem Station.takeSideReply_startKind (bits : BitVec 48) : (st.takeSideReply bits).startKind = st.startKind := rfl
@[simp] theorem Station.takeSideReply_config (bits : BitVec 48) : (st.takeSideReply bits).config = st.config := rfl
@[simp] theorem Station.takeSideReply_store (bits : BitVec 48) : (st.takeSideReply bits).store = st.store := rfl
@[simp] theorem Station.takeSideReply_segments (bits : BitVec 48) : (st.takeSideReply bits).segments = st.segments := rfl
@[simp] theorem Station.takeSideReply_cutLoadings (bits : BitVec 48) :
    (st.takeSideReply bits).cutLoadings = st.cutLoadings := rfl
@[simp] theorem Station.takeSideReply_schedule (bits : BitVec 48) : (st.takeSideReply bits).schedule = st.schedule := rfl
@[simp] theorem Station.takeSideReply_engine (bits : BitVec 48) : (st.takeSideReply bits).engine = st.engine := rfl
@[simp] theorem Station.takeSideReply_ctl (bits : BitVec 48) : (st.takeSideReply bits).ctl = st.ctl := rfl
@[simp] theorem Station.takeSideReply_peers (bits : BitVec 48) : (st.takeSideReply bits).peers = st.peers := rfl
@[simp] theorem Station.takeSideReply_link (bits : BitVec 48) : (st.takeSideReply bits).link = st.link := rfl
@[simp] theorem Station.takeSideReply_drive (bits : BitVec 48) :
    (st.takeSideReply bits).drive = { st.drive with sideReply := some (responseReply bits), newMark := true } := rfl
@[simp] theorem Station.takeSideReply_sup (bits : BitVec 48) : (st.takeSideReply bits).sup = st.sup := rfl
@[simp] theorem Station.takeSideReply_port (bits : BitVec 48) : (st.takeSideReply bits).port = st.port := rfl
@[simp] theorem Station.takeSideReply_events (bits : BitVec 48) :
    (st.takeSideReply bits).events = st.events.raise .sideDone := rfl

/-! ### Station.dropFrame: dropping a frame -/

@[simp] theorem Station.dropFrame_power : st.dropFrame.power = st.power := rfl
@[simp] theorem Station.dropFrame_resetLine : st.dropFrame.resetLine = st.resetLine := rfl
@[simp] theorem Station.dropFrame_estopLine : st.dropFrame.estopLine = st.estopLine := rfl
@[simp] theorem Station.dropFrame_startKind : st.dropFrame.startKind = st.startKind := rfl
@[simp] theorem Station.dropFrame_config : st.dropFrame.config = st.config := rfl
@[simp] theorem Station.dropFrame_store : st.dropFrame.store = st.store := rfl
@[simp] theorem Station.dropFrame_segments : st.dropFrame.segments = st.segments := rfl
@[simp] theorem Station.dropFrame_cutLoadings : st.dropFrame.cutLoadings = st.cutLoadings := rfl
@[simp] theorem Station.dropFrame_schedule : st.dropFrame.schedule = st.schedule := rfl
@[simp] theorem Station.dropFrame_engine : st.dropFrame.engine = st.engine := rfl
@[simp] theorem Station.dropFrame_ctl : st.dropFrame.ctl = st.ctl := rfl
@[simp] theorem Station.dropFrame_peers : st.dropFrame.peers = st.peers := rfl
@[simp] theorem Station.dropFrame_link :
    st.dropFrame.link = { st.link with linkErrors := min 65535 (st.link.linkErrors + 1) } := rfl
@[simp] theorem Station.dropFrame_drive : st.dropFrame.drive = st.drive := rfl
@[simp] theorem Station.dropFrame_sup : st.dropFrame.sup = st.sup := rfl
@[simp] theorem Station.dropFrame_port : st.dropFrame.port = st.port := rfl
@[simp] theorem Station.dropFrame_events : st.dropFrame.events = st.events.raise .linkError := rfl

/-! ### The Event Set -/

@[simp] theorem EventSet.raise_latched (ev : EventSet) (e : Event) : (ev.raise e).latched = ev.latched ||| e.bit := rfl
@[simp] theorem EventSet.raise_mask (ev : EventSet) (e : Event) : (ev.raise e).mask = ev.mask := rfl
@[simp] theorem EventSet.raise_attention (ev : EventSet) (e : Event) :
    (ev.raise e).attention = attentionOf (ev.latched ||| e.bit) ev.mask := rfl
@[simp] theorem EventSet.clear_latched (ev : EventSet) (n : EventBits) : (ev.clear n).latched = ev.latched &&& ~~~n := rfl
@[simp] theorem EventSet.clear_mask (ev : EventSet) (n : EventBits) : (ev.clear n).mask = ev.mask := rfl
@[simp] theorem EventSet.clear_attention (ev : EventSet) (n : EventBits) :
    (ev.clear n).attention = attentionOf (ev.latched &&& ~~~n) ev.mask := rfl

/-! ### The state around the station -/

@[simp] theorem State.withStation_station (s : State) : (s.withStation st).station = st := rfl
@[simp] theorem State.withStation_pending (s : State) : (s.withStation st).pending = s.pending := rfl
@[simp] theorem State.withStation_withStation (s : State) (st' : Station) :
    (s.withStation st).withStation st' = s.withStation st' := rfl
@[simp] theorem State.withStation_self (s : State) : s.withStation s.station = s := rfl

/-- A meaning completes with the station that its effect gives, and the queue stays. -/
theorem State.act_eq (s : State) (f : Station → Station) : s.act f = .next (s.withStation (f s.station)) := rfl

end Sys2Proof.Machine
end

