-- ==== Sys2Proof/Laws/Ops.lean ====
section
/-! SUPPORT. The shared operations of the Station Controller and the Host Port: what each of them can change, said once.
A proof about a command cites these in place of unfolding the operation. -/

namespace Sys2Proof.Machine

variable (st : Station) (cfg : ConfigRecord)

/-! ### Entering a state -/

/-- What entering a state does, whole (R41, R62, R78, R96). -/
theorem Station.enterMode_eq (m : Mode) : st.enterMode cfg m = { st with
    ctl := { st.ctl with mode := m, permit := m.isPermit, countdown := if m = Mode.countdown then some 64 else none }
    engine := { st.engine with
      fadeEnd := none
      regs := if m.isMoving then st.engine.regs else st.engine.regs.map fun r => { r with increment := nominal cfg } }
    events := st.events.raise .state } := by
  unfold Station.enterMode
  cases m.isMoving <;> rfl

@[simp] theorem Station.enterMode_mode (m : Mode) : (st.enterMode cfg m).ctl.mode = m := by rw [enterMode_eq]
@[simp] theorem Station.enterMode_permit (m : Mode) : (st.enterMode cfg m).ctl.permit = m.isPermit := by rw [enterMode_eq]
@[simp] theorem Station.enterMode_reasons (m : Mode) : (st.enterMode cfg m).ctl.reasons = st.ctl.reasons := by rw [enterMode_eq]
@[simp] theorem Station.enterMode_link (m : Mode) : (st.enterMode cfg m).link = st.link := by rw [enterMode_eq]
@[simp] theorem Station.enterMode_peers (m : Mode) : (st.enterMode cfg m).peers = st.peers := by rw [enterMode_eq]
@[simp] theorem Station.enterMode_drive (m : Mode) : (st.enterMode cfg m).drive = st.drive := by rw [enterMode_eq]
@[simp] theorem Station.enterMode_sup (m : Mode) : (st.enterMode cfg m).sup = st.sup := by rw [enterMode_eq]
@[simp] theorem Station.enterMode_port (m : Mode) : (st.enterMode cfg m).port = st.port := by rw [enterMode_eq]
@[simp] theorem Station.enterMode_config (m : Mode) : (st.enterMode cfg m).config = st.config := by rw [enterMode_eq]
@[simp] theorem Station.enterMode_store (m : Mode) : (st.enterMode cfg m).store = st.store := by rw [enterMode_eq]
@[simp] theorem Station.enterMode_segments (m : Mode) : (st.enterMode cfg m).segments = st.segments := by rw [enterMode_eq]
@[simp] theorem Station.enterMode_schedule (m : Mode) : (st.enterMode cfg m).schedule = st.schedule := by rw [enterMode_eq]
@[simp] theorem Station.enterMode_position (m : Mode) : (st.enterMode cfg m).engine.position = st.engine.position := by
  rw [enterMode_eq]
@[simp] theorem Station.enterMode_events (m : Mode) : (st.enterMode cfg m).events = st.events.raise .state := by rw [enterMode_eq]

/-! ### What a change of the Station Controller leaves alone

A hold, a trip, a change of state and the taking of a frame touch the Station Controller, the engine's registers and
position, the slots, the peer entries and the events. The supply and the lines, the configuration, the store, the segments,
the drive line and the host port stand. -/

/-- The parts of the station that no change of the Station Controller touches. -/
abbrev Station.SameRest (a b : Station) : Prop :=
  a.power = b.power ∧ a.resetLine = b.resetLine ∧ a.estopLine = b.estopLine ∧ a.startKind = b.startKind ∧ a.config = b.config ∧
  a.store = b.store ∧ a.segments = b.segments ∧ a.cutLoadings = b.cutLoadings ∧ a.drive = b.drive ∧ a.port = b.port

@[simp] theorem Station.SameRest.refl (a : Station) : a.SameRest a := ⟨rfl, rfl, rfl, rfl, rfl, rfl, rfl, rfl, rfl, rfl⟩

/-- Two stations that share those parts with a third share them with each other. -/
theorem Station.SameRest.trans {a b c : Station} (h1 : a.SameRest b) (h2 : b.SameRest c) : a.SameRest c := by
  unfold Station.SameRest at *
  obtain ⟨a1, a2, a3, a4, a5, a6, a7, a8, a9, a10⟩ := h1
  exact ⟨a1.trans h2.1, a2.trans h2.2.1, a3.trans h2.2.2.1, a4.trans h2.2.2.2.1, a5.trans h2.2.2.2.2.1, a6.trans h2.2.2.2.2.2.1,
    a7.trans h2.2.2.2.2.2.2.1, a8.trans h2.2.2.2.2.2.2.2.1, a9.trans h2.2.2.2.2.2.2.2.2.1,
    a10.trans h2.2.2.2.2.2.2.2.2.2⟩

theorem Station.enterMode_same (m : Mode) : (st.enterMode cfg m).SameRest st := by
  rw [enterMode_eq]; exact ⟨rfl, rfl, rfl, rfl, rfl, rfl, rfl, rfl, rfl, rfl⟩

theorem Station.startHold_same (r : HoldReason) (k : StationNo) : (st.startHold r k).SameRest st := by
  unfold Station.startHold
  simp only
  split <;> exact ⟨rfl, rfl, rfl, rfl, rfl, rfl, rfl, rfl, rfl, rfl⟩

/-- The start of a hold leaves the state, the set and everything of the engine as they are. -/
theorem Station.startHold_engine (r : HoldReason) (k : StationNo) : (st.startHold r k).engine = st.engine := by
  unfold Station.startHold
  simp only
  split <;> rfl

theorem Station.startHold_mode (r : HoldReason) (k : StationNo) : (st.startHold r k).ctl.mode = st.ctl.mode := by
  unfold Station.startHold
  simp only
  split <;> rfl

/-- The taking of a hold reason leaves the lines, the configuration, the store, the segments, the drive line and the port. -/
theorem Station.takeReason_same (r : HoldReason) (k : StationNo) : (st.takeReason cfg r k).SameRest st := by
  have h (x : Station) (m : Mode) : ((x.enterMode cfg m).startHold r k).SameRest x :=
    (startHold_same _ _ _).trans (enterMode_same _ _ _)
  unfold Station.takeReason
  split <;> first | exact ⟨rfl, rfl, rfl, rfl, rfl, rfl, rfl, rfl, rfl, rfl⟩ | exact h _ _

/-- The taking of a hold reason leaves the Supervision Unit, the peers, the schedule and the position. -/
theorem Station.takeReason_kept (r : HoldReason) (k : StationNo) :
    (st.takeReason cfg r k).sup = st.sup ∧ (st.takeReason cfg r k).peers = st.peers ∧
    (st.takeReason cfg r k).schedule = st.schedule ∧ (st.takeReason cfg r k).engine.position = st.engine.position := by
  have h (x : Station) (m : Mode) : ((x.enterMode cfg m).startHold r k).sup = x.sup ∧
      ((x.enterMode cfg m).startHold r k).peers = x.peers ∧ ((x.enterMode cfg m).startHold r k).schedule = x.schedule ∧
      ((x.enterMode cfg m).startHold r k).engine.position = x.engine.position := by
    rw [startHold_engine, enterMode_position]
    unfold Station.startHold
    simp only
    split <;> simp
  unfold Station.takeReason
  split <;> first | exact ⟨rfl, rfl, rfl, rfl⟩ | exact h _ _

/-- A hold reason keeps the run group, and brings no other state into it. -/
theorem Station.takeReason_runGroup (r : HoldReason) (k : StationNo) :
    (st.takeReason cfg r k).ctl.mode.inRunGroup = st.ctl.mode.inRunGroup := by
  by_cases hr : r = .wait <;> cases hm : st.ctl.mode <;> simp [Station.takeReason, hm, hr, startHold_mode, Mode.inRunGroup]

/-- A trip leaves the lines, the configuration, the store, the segments, the drive line and the port. -/
theorem Station.takeTrip_same (c : TripCause) (k : StationNo) : (st.takeTrip cfg c k).SameRest st := by
  unfold Station.takeTrip
  split
  · simp only [enterMode_eq]
    split <;> exact ⟨rfl, rfl, rfl, rfl, rfl, rfl, rfl, rfl, rfl, rfl⟩
  · exact ⟨rfl, rfl, rfl, rfl, rfl, rfl, rfl, rfl, rfl, rfl⟩

/-- A trip leaves the Supervision Unit, the peers, the schedule, the hold reason set and record, and the position. -/
theorem Station.takeTrip_kept (c : TripCause) (k : StationNo) :
    (st.takeTrip cfg c k).sup = st.sup ∧ (st.takeTrip cfg c k).peers = st.peers ∧
    (st.takeTrip cfg c k).schedule = st.schedule ∧ (st.takeTrip cfg c k).ctl.reasons = st.ctl.reasons ∧
    (st.takeTrip cfg c k).ctl.holdRecord = st.ctl.holdRecord ∧
    (st.takeTrip cfg c k).engine.position = st.engine.position := by
  unfold Station.takeTrip
  split
  · simp only [enterMode_eq]
    split <;> exact ⟨rfl, rfl, rfl, rfl, rfl, rfl⟩
  · exact ⟨rfl, rfl, rfl, rfl, rfl, rfl⟩

/-- Entering IDLE leaves the lines, the configuration, the store, the segments, the drive line and the port. -/
theorem Station.enterIdle_same : (st.enterIdle cfg).SameRest st := by
  unfold Station.enterIdle Station.dropGoAndResume
  simp only [enterMode_eq]
  split <;> exact ⟨rfl, rfl, rfl, rfl, rfl, rfl, rfl, rfl, rfl, rfl⟩

/-! ### The host port -/

/-- An answer goes to an IDLE transmitter, or to the reply place beside one that is sending (R176, R178). -/
theorem HostPort.answer_cases (port : HostPort) (r : HostReply) :
    (port.sending = none ∧ port.answer r = { port with sending := some r }) ∨
    (port.sending ≠ none ∧ port.answer r = { port with reply := some r }) := by
  unfold HostPort.answer
  cases h : port.sending <;> simp

/-- The transmitter changes nothing but the port. -/
theorem Station.transmitterTake_cases : ∃ p : HostPort, st.transmitterTake = { st with port := p } := by
  unfold Station.transmitterTake
  split
  · exact ⟨_, rfl⟩
  · split
    · exact ⟨_, rfl⟩
    · exact ⟨_, rfl⟩
    · split <;> exact ⟨_, rfl⟩

/-- A frame that joins the buffers, or does not, changes nothing but the port. -/
theorem Station.joinBuffers_cases (f : HostFrame) : ∃ p : HostPort, st.joinBuffers f = { st with port := p } := by
  unfold Station.joinBuffers
  split
  · exact ⟨_, rfl⟩
  · split <;> exact ⟨_, rfl⟩

/-! ### When the station runs -/

/-- An event acts on a running station with a configuration. -/
theorem Station.whenConfigured_runs {st : Station} {cfg : ConfigRecord} (h : st.RunsIn cfg)
    (f : ConfigRecord → Station → Station) : st.whenConfigured f = f cfg st := by
  simp [Station.whenConfigured, h.1, h.2]

/-- An event finds nothing to act on while the station does not run. -/
theorem Station.whenConfigured_off {st : Station} (h : st.running = false) (f : ConfigRecord → Station → Station) :
    st.whenConfigured f = st := by
  simp [Station.whenConfigured, h]

/-- A request that is served at once is taken by the block that owns it. -/
theorem Station.hostRequest_serves {st : Station} (h : st.Serves) (r : Request) : st.hostRequest r = st.takeRequest r := by
  simp [Station.hostRequest, h.1, h.2]

/-- A request finds nothing to act on while the station does not run. -/
theorem Station.hostRequest_off {st : Station} (h : st.running = false) (r : Request) : st.hostRequest r = st := by
  simp [Station.hostRequest, h]

end Sys2Proof.Machine
end

