-- ==== Sys2Proof/Laws/Engine.lean ====
section
/-! SUPPORT. The operations of an update and of the two lines, in what each can change: the Replay Engine's advance, the
Peer Table's tick and beat work, the judging of a feedback and the slots. -/

namespace Sys2Proof.Machine

variable (st : Station) (cfg : ConfigRecord)

/-! ### The Replay Engine -/

theorem Station.takeWaitPark_same : (st.takeWaitPark cfg).SameRest st := by
  unfold Station.takeWaitPark
  split
  · exact enterMode_same _ _ _
  all_goals exact takeReason_same _ _ _ _

theorem Station.takeEndPark_same : (st.takeEndPark cfg).SameRest st := by
  unfold Station.takeEndPark
  split
  · exact enterMode_same _ _ _
  · exact .refl st

theorem Station.takeStepReport_same (r : StepReport) : (st.takeStepReport cfg r).SameRest st := by
  cases r with
  | nothing => exact .refl st
  | passEnd => exact ⟨rfl, rfl, rfl, rfl, rfl, rfl, rfl, rfl, rfl, rfl⟩
  | waitPark => exact takeWaitPark_same _ _
  | endPark => exact takeEndPark_same _ _

/-- A WAIT park taken leaves the schedule and the position. -/
theorem Station.takeWaitPark_kept : (st.takeWaitPark cfg).schedule = st.schedule ∧
    (st.takeWaitPark cfg).engine.position = st.engine.position := by
  unfold Station.takeWaitPark
  split
  · simp
  all_goals exact ⟨(takeReason_kept _ _ _ _).2.2.1, (takeReason_kept _ _ _ _).2.2.2⟩

/-- A report of the Schedule leaves the schedule and the position. -/
theorem Station.takeStepReport_kept (r : StepReport) : (st.takeStepReport cfg r).schedule = st.schedule ∧
    (st.takeStepReport cfg r).engine.position = st.engine.position := by
  cases r with
  | nothing => exact ⟨rfl, rfl⟩
  | passEnd => exact ⟨rfl, rfl⟩
  | waitPark => exact takeWaitPark_kept _ _
  | endPark =>
    show (st.takeEndPark cfg).schedule = _ ∧ (st.takeEndPark cfg).engine.position = _
    unfold Station.takeEndPark
    split <;> simp

/-- An advance by steps leaves the lines, the configuration, the store, the segments, the drive line and the port. -/
theorem Station.advanceBy_same (n : Nat) : ∀ (x : Station) (p : Position), (x.advanceBy cfg p n).SameRest x := by
  induction n with
  | zero => intro x p; exact ⟨rfl, rfl, rfl, rfl, rfl, rfl, rfl, rfl, rfl, rfl⟩
  | succ n ih => intro x p; exact (ih _ _).trans ((takeStepReport_same _ _ _).trans ⟨rfl, rfl, rfl, rfl, rfl, rfl, rfl, rfl, rfl, rfl⟩)

theorem Station.advance_same : (st.advance cfg).SameRest st := by
  unfold Station.advance
  split
  · simp only
    split
    · exact advanceBy_same _ _ _ _
    · exact ⟨rfl, rfl, rfl, rfl, rfl, rfl, rfl, rfl, rfl, rfl⟩
  · exact ⟨rfl, rfl, rfl, rfl, rfl, rfl, rfl, rfl, rfl, rfl⟩

/-! ### The Peer Table -/

/-- The tick leaves everything but the Peer Table and the events. -/
theorem Station.peerTick_cases : ∃ (p : PeerTable) (e : EventSet), st.peerTick cfg = { st with peers := p, events := e } := by
  unfold Station.peerTick
  simp only
  split <;> exact ⟨_, _, rfl⟩

theorem Station.consistencyCheck_same : (st.consistencyCheck cfg).SameRest st := by
  have h (o : Option StationNo) : (match o with
      | none => st
      | some k => st.takeTrip cfg .peerTrip k).SameRest st := by
    cases o
    · exact .refl st
    · exact takeTrip_same _ _ _ _
  unfold Station.consistencyCheck
  simp only
  split
  · split
    · exact (takeReason_same _ _ _ _).trans (h _)
    · exact h _
  · exact .refl st

/-! ### A frame received -/

theorem Station.reportClash_same : (st.reportClash cfg).SameRest st := by
  unfold Station.reportClash
  simp only
  split
  · exact (takeReason_same _ _ _ _).trans ⟨rfl, rfl, rfl, rfl, rfl, rfl, rfl, rfl, rfl, rfl⟩
  · exact ⟨rfl, rfl, rfl, rfl, rfl, rfl, rfl, rfl, rfl, rfl⟩

/-- The record of a control frame leaves everything but the Peer Table. -/
theorem Station.recordControl_cases (k : StationNo) (c : ControlSeen) : ∃ p : PeerTable,
    st.recordControl cfg k c = { st with peers := p } := by
  unfold Station.recordControl
  split
  · exact ⟨_, rfl⟩
  · split <;> exact ⟨_, rfl⟩

/-- An own aborted frame that is already over is not taken out twice. -/
theorem Station.abortOver_self (h : st.link.ownAborted = false) : st.abortOver = st := by
  unfold Station.abortOver
  rw [← h]

/-- With nothing of its own to take, the station takes nothing (R129). -/
theorem Station.takeOwnFrame_none (h : st.link.ownEnded = none) : st.takeOwnFrame cfg = st := by
  simp [Station.takeOwnFrame, h]

/-- The frame completed is delivered with the mark, and is then no longer to be taken (R129, R136). -/
theorem Station.takeOwnFrame_some (f : RigFrame) (h : st.link.ownEnded = some f) :
    st.takeOwnFrame cfg = ({ st with link := { st.link with ownEnded := none } } : Station).deliver cfg f true := by
  simp [Station.takeOwnFrame, h]

/-- Everything the end of a valid frame can be: the own frame, or another after the own one still to be taken (R135). -/
theorem Station.receive_cases (sender : Sender) (body : FrameBody) :
    (sender.bySelf = true ∧ st.link.ownEnded = some { sender := sender.number, body := body } ∧
      st.receive cfg sender body = st.abortOver.takeOwnFrame cfg) ∨
    (¬ (sender.bySelf = true ∧ st.link.ownEnded = some { sender := sender.number, body := body }) ∧
      st.receive cfg sender body =
        (st.abortOver.takeOwnFrame cfg).deliver cfg { sender := sender.number, body := body } false) := by
  unfold Station.receive
  simp only
  split
  · next h => exact .inl ⟨h.1, h.2, rfl⟩
  · next h => exact .inr ⟨h, rfl⟩

/-- A frame that comes with nothing of the station's own on the line or still to be taken is delivered as it is (R135). -/
theorem Station.receive_clear (sender : Sender) (body : FrameBody) (ended : st.link.ownEnded = none)
    (aborted : st.link.ownAborted = false) :
    st.receive cfg sender body = st.deliver cfg { sender := sender.number, body := body } false := by
  rcases st.receive_cases cfg sender body with ⟨-, h, -⟩ | ⟨-, h⟩
  · rw [ended] at h; cases h
  · rw [h, abortOver_self _ aborted, takeOwnFrame_none _ _ ended]

/-- The station's own frame, and no other, is delivered with the mark (R135, R136). -/
theorem Station.receive_own (sender : Sender) (body : FrameBody) (mark : sender.bySelf = true)
    (ended : st.link.ownEnded = some { sender := sender.number, body := body }) :
    st.receive cfg sender body =
      ({ st with link := { st.link with ownEnded := none, ownAborted := false } } : Station).deliver cfg
        { sender := sender.number, body := body } true := by
  rcases st.receive_cases cfg sender body with ⟨-, -, h⟩ | ⟨h, -⟩
  · rw [h, takeOwnFrame_some _ _ _ (by simpa using ended)]; rfl
  · exact absurd ⟨mark, ended⟩ h

/-- A frame that fails a check ends as the own abort or is dropped, and in both cases the own abort is over (R131, R133). -/
theorem Station.badFrameEnds_cases (otherDriving : Bool) :
    (st.link.ownAborted = true ∧ otherDriving = false ∧ st.badFrameEnds otherDriving = st.abortOver) ∨
    ((st.link.ownAborted = false ∨ otherDriving = true) ∧ st.badFrameEnds otherDriving = st.abortOver.dropFrame) := by
  unfold Station.badFrameEnds
  cases st.link.ownAborted <;> cases otherDriving <;> simp

/-- The parts of the rig link that no taking of a frame touches: the attempt, the own frames and the two counts. -/
abbrev Station.SameAttempt (a b : Station) : Prop :=
  a.link.attempt = b.link.attempt ∧ a.link.ownEnded = b.link.ownEnded ∧ a.link.ownAborted = b.link.ownAborted ∧
  a.link.aborts = b.link.aborts ∧ a.link.linkErrors = b.link.linkErrors

theorem Station.takeReason_attempt (r : HoldReason) (k : StationNo) : (st.takeReason cfg r k).SameAttempt st := by
  have h (x : Station) (m : Mode) : ((x.enterMode cfg m).startHold r k).SameAttempt x := by
    unfold Station.startHold
    simp only
    split <;> simp [Station.SameAttempt]
  unfold Station.takeReason
  split <;> first | exact ⟨rfl, rfl, rfl, rfl, rfl⟩ | exact h _ _

theorem Station.takeTrip_attempt (c : TripCause) (k : StationNo) : (st.takeTrip cfg c k).SameAttempt st := by
  unfold Station.takeTrip
  split
  · simp only
    split <;> simp [Station.SameAttempt]
  · exact ⟨rfl, rfl, rfl, rfl, rfl⟩

/-- What a valid frame does once it is delivered leaves the attempt, the own frames and the two counts as they are. -/
theorem Station.deliver_attempt (f : RigFrame) (bySelf : Bool) : (st.deliver cfg f bySelf).SameAttempt st := by
  have trans {a b c : Station} (h1 : a.SameAttempt b) (h2 : b.SameAttempt c) : a.SameAttempt c :=
    ⟨h1.1.trans h2.1, h1.2.1.trans h2.2.1, h1.2.2.1.trans h2.2.2.1, h1.2.2.2.1.trans h2.2.2.2.1, h1.2.2.2.2.trans h2.2.2.2.2⟩
  have refl (a : Station) : a.SameAttempt a := ⟨rfl, rfl, rfl, rfl, rfl⟩
  have clash (x : Station) : (x.reportClash cfg).SameAttempt x := by
    unfold Station.reportClash
    simp only
    split
    · exact trans (takeReason_attempt _ _ _ _) ⟨rfl, rfl, rfl, rfl, rfl⟩
    · exact ⟨rfl, rfl, rfl, rfl, rfl⟩
  have recorded (x : Station) (k : StationNo) (c : ControlSeen) : (x.recordControl cfg k c).SameAttempt x := by
    obtain ⟨p, h⟩ := recordControl_cases x cfg k c
    rw [h]
    exact ⟨rfl, rfl, rfl, rfl, rfl⟩
  unfold Station.deliver
  simp only
  generalize hx : (if isClash cfg f bySelf then st.reportClash cfg else st) = x
  have hs : x.SameAttempt st := by
    rw [← hx]
    split
    · exact clash st
    · exact refl st
  refine trans ?_ hs
  rcases f.body with cause | ⟨fp, pass, whole⟩ | reasons | ⟨fp, pass, whole⟩ | b
  · refine trans (recorded _ _ _) ?_
    unfold Station.receiveTrip
    split
    · exact refl x
    · exact takeTrip_attempt _ _ _ _
  · refine trans (recorded _ _ _) ?_
    unfold Station.receiveGo
    simp only
    split_ifs <;> simp [Station.SameAttempt, Station.beginCountdown]
  · refine trans (recorded _ _ _) ?_
    unfold Station.receiveHold
    split
    · exact refl x
    · split <;> first | exact refl x | exact takeReason_attempt _ _ _ _
  · refine trans (recorded _ _ _) ?_
    unfold Station.receiveResume
    split_ifs <;> exact refl _
  · show (x.receiveBeat cfg f.sender b).SameAttempt x
    unfold Station.receiveBeat
    split
    · exact refl x
    · refine trans (b := (x.enterBeat f.sender b).testHoldFlag cfg f.sender b) ?_ (trans (b := x.enterBeat f.sender b) ?_ ?_)
      · unfold Station.testTripped
        split
        · exact takeTrip_attempt _ _ _ _
        · exact refl _
      · unfold Station.testHoldFlag
        split
        · exact takeReason_attempt _ _ _ _
        · exact refl _
      · unfold Station.enterBeat
        simp only
        split <;> exact ⟨rfl, rfl, rfl, rfl, rfl⟩

/-! ### The drive line and the Supervision Unit -/

theorem Station.tripMaskCheck_drive (status : AmpStatus) : (st.tripMaskCheck cfg status).drive = st.drive := by
  unfold Station.tripMaskCheck
  split
  · split
    · exact (takeTrip_same _ _ _ _).2.2.2.2.2.2.2.2.1
    · split <;> rfl
  · rfl

theorem Station.holdMaskCheck_drive (status : AmpStatus) : (st.holdMaskCheck cfg status).drive = st.drive := by
  unfold Station.holdMaskCheck
  split
  · exact (takeReason_same _ _ _ _).2.2.2.2.2.2.2.2.1
  · rfl

theorem Station.windowCheck_drive (f d : Int) : (st.windowCheck cfg f d).drive = st.drive := by
  unfold Station.windowCheck
  split
  · simp only
    split
    · exact (takeReason_same _ _ _ _).2.2.2.2.2.2.2.2.1
    · rfl
  · rfl

theorem Station.trackCheck_drive (a f d : Int) : (st.trackCheck cfg a f d).drive = st.drive := by
  unfold Station.trackCheck
  simp only
  split_ifs <;> first | rfl | exact (takeReason_same _ _ _ _).2.2.2.2.2.2.2.2.1

/-- The judging of a feedback leaves the drive line. -/
theorem Station.supervise_drive (f d : Int) (status : AmpStatus) (a : Int) :
    (st.supervise cfg f d status a).drive = st.drive := by
  unfold Station.supervise
  rw [trackCheck_drive, windowCheck_drive, holdMaskCheck_drive, tripMaskCheck_drive]

/-- What a response can change of the drive line: the silence counter, the feedback, the side reply with its mark, and the
loss count (R146 to R148). -/
theorem Station.takeResponse_drive (kind : TransferKind) (bits : BitVec 48) :
    let d := (st.takeResponse cfg kind bits).drive
    d.lastSent = st.drive.lastSent ∧ d.refresh = st.drive.refresh ∧ d.previousKind = st.drive.previousKind ∧
    d.answered = st.drive.answered ∧ d.sideQueue = st.drive.sideQueue ∧ d.autoSlot = st.drive.autoSlot ∧
    d.band = st.drive.band ∧ d.outA = st.drive.outA ∧ d.outB = st.drive.outB := by
  unfold Station.takeResponse
  cases kind with
  | none => exact ⟨rfl, rfl, rfl, rfl, rfl, rfl, rfl, rfl, rfl⟩
  | command =>
    simp only
    split
    · unfold Station.takeFeedback; simp [supervise_drive]
    · exact ⟨rfl, rfl, rfl, rfl, rfl, rfl, rfl, rfl, rfl⟩
  | side => simp only; split <;> simp
  | auto => simp only; split <;> simp

end Sys2Proof.Machine
end

