-- ==== Sys2Proof/Laws/Store.lean ====
section
/-! SUPPORT. The Sample Store as a memory: what a write leaves to be read at its own index and at every other, and that
every operation over the store keeps its canonical form. -/

namespace Sys2Proof.Machine

/-- A bound below a canonical list may be lowered. -/
theorem Store.wfFrom_mono {low high : Nat} (h : low ≤ high) : ∀ {store : Store}, Store.wfFrom high store = true →
    Store.wfFrom low store = true
  | [], _ => rfl
  | (i, x) :: rest, hw => by
    simp only [Store.wfFrom, Bool.and_eq_true, decide_eq_true_eq] at hw ⊢
    exact ⟨⟨⟨by omega, hw.1.1.2⟩, hw.1.2⟩, hw.2⟩

/-- Below the bound of a canonical list every index reads as unwritten. -/
theorem Store.read_below {k : Nat} : ∀ {store : Store} {low : Nat}, Store.wfFrom low store = true → k < low →
    Store.read store k = unwritten
  | [], _, _, _ => rfl
  | (i, x) :: rest, low, hw, hk => by
    simp only [Store.wfFrom, Bool.and_eq_true, decide_eq_true_eq] at hw
    have hne : ¬ i = k := by omega
    simp only [Store.read, hne, if_false]
    exact Store.read_below hw.2 (by omega)

/-- Putting a sample at an index of the store keeps the canonical form from any bound not above it. -/
theorem Store.wfFrom_put {i : Nat} {x : Sample} (hi : i < storeSize) : ∀ {store : Store} {low : Nat}, low ≤ i →
    Store.wfFrom low store = true → Store.wfFrom low (Store.put store i x) = true
  | [], low, hl, _ => by
    by_cases hx : x = unwritten <;> simp [Store.put, Store.wfFrom, hx, hl, hi]
  | (j, y) :: rest, low, hl, hw => by
    have hw' := hw
    simp only [Store.wfFrom, Bool.and_eq_true, decide_eq_true_eq] at hw'
    obtain ⟨⟨⟨h1, h2⟩, h3⟩, h4⟩ := hw'
    unfold Store.put
    split
    · next hj =>
      simp only [Store.wfFrom, Bool.and_eq_true, decide_eq_true_eq]
      exact ⟨⟨⟨h1, h2⟩, h3⟩, Store.wfFrom_put hi (by omega) h4⟩
    · next hj =>
      split
      · next hji =>
        split
        · exact Store.wfFrom_mono (by omega) h4
        · next hx =>
          simp only [Store.wfFrom, Bool.and_eq_true, decide_eq_true_eq]
          exact ⟨⟨⟨hl, hi⟩, hx⟩, hji ▸ h4⟩
      · next hji =>
        split
        · exact hw
        · next hx =>
          simp only [Store.wfFrom, Bool.and_eq_true, decide_eq_true_eq]
          exact ⟨⟨⟨hl, hi⟩, hx⟩, ⟨⟨by omega, h2⟩, h3⟩, h4⟩

/-- A sample put at an index is read there. -/
theorem Store.read_put_self {i : Nat} {x : Sample} : ∀ {store : Store} {low : Nat}, Store.wfFrom low store = true →
    Store.read (Store.put store i x) i = x
  | [], _, _ => by
    by_cases hx : x = unwritten <;> simp [Store.put, Store.read, hx]
  | (j, y) :: rest, low, hw => by
    simp only [Store.wfFrom, Bool.and_eq_true, decide_eq_true_eq] at hw
    obtain ⟨⟨⟨h1, h2⟩, h3⟩, h4⟩ := hw
    unfold Store.put
    split
    · next hj => simp only [Store.read, show ¬ j = i by omega, if_false]; exact Store.read_put_self h4
    · next hj =>
      split
      · next hji =>
        split
        · next hx => rw [hx]; exact Store.read_below h4 (by omega)
        · simp [Store.read]
      · next hji =>
        split
        · next hx =>
          simp only [Store.read, hji, if_false, hx]
          exact Store.read_below h4 (by omega)
        · simp [Store.read]

/-- A sample put at an index leaves every other index as it reads. -/
theorem Store.read_put_other {i k : Nat} {x : Sample} (hk : k ≠ i) : ∀ {store : Store} {low : Nat},
    Store.wfFrom low store = true → Store.read (Store.put store i x) k = Store.read store k
  | [], _, _ => by
    by_cases hx : x = unwritten <;> simp [Store.put, Store.read, hx, Ne.symm hk]
  | (j, y) :: rest, low, hw => by
    simp only [Store.wfFrom, Bool.and_eq_true, decide_eq_true_eq] at hw
    unfold Store.put
    split
    · next hj =>
      by_cases hjk : j = k
      · simp [Store.read, hjk]
      · simp only [Store.read, hjk, if_false]; exact Store.read_put_other hk hw.2
    · next hj =>
      split
      · next hji =>
        have hjk : ¬ j = k := fun h => hk (by omega)
        split
        · simp [Store.read, hjk]
        · simp [Store.read, hjk, Ne.symm hk]
      · next hji => split <;> simp [Store.read, Ne.symm hk]

/-- A write keeps the canonical form. -/
theorem Store.wf_write {store : Store} (h : Store.wf store = true) (i : Nat) (x : Sample) :
    Store.wf (Store.write store i x) = true := by
  unfold Store.write
  split
  · next hi => exact Store.wfFrom_put hi (Nat.zero_le i) h
  · exact h

/-- A write within the store is read back. -/
theorem Store.read_write_self {store : Store} (h : Store.wf store = true) {i : Nat} (hi : i < storeSize) (x : Sample) :
    Store.read (Store.write store i x) i = x := by
  simp only [Store.write, hi, if_true]; exact Store.read_put_self h

/-- A write leaves every other index as it reads. -/
theorem Store.read_write_other {store : Store} (h : Store.wf store = true) {i k : Nat} (hk : k ≠ i) (x : Sample) :
    Store.read (Store.write store i x) k = Store.read store k := by
  unfold Store.write
  split
  · exact Store.read_put_other hk h
  · rfl

/-- The writing of a part keeps the canonical form. -/
theorem Store.wf_writeSamples : ∀ {samples : List Sample} {store : Store} {i : Nat}, Store.wf store = true →
    Store.wf (writeSamples store i samples) = true
  | [], _, _, h => h
  | _ :: _, _, _, h => by
    rw [writeSamples]
    exact Store.wf_writeSamples (Store.wf_write h _ _)

/-! ### Discards and refused parts (R8, R13) -/

/-- Everything the refusal of a part can be: BAD-STATE in the case that R13 names, OUT-OF-ORDER in every other (log entry 29).
-/
theorem Station.refusePart_cases (st : Station) (kind : Byte) (id part next : Nat) :
    (st.wasCut id = true ∧ next = 0 ∧ part ≠ 0 ∧ st.refusePart kind id part next = st.answer kind .badState []) ∨
    (¬ (st.wasCut id = true ∧ next = 0 ∧ part ≠ 0) ∧
      st.refusePart kind id part next = st.answer kind .outOfOrder (leBytes 3 next)) := by
  unfold Station.refusePart
  split
  · next h => exact .inl ⟨h.1, h.2.1, h.2.2, rfl⟩
  · next h => exact .inr ⟨h, rfl⟩

/-- What a discard remembers of an id is read back (R13). -/
@[simp] theorem Station.wasCut_setCut (st : Station) (id : Nat) (cut : Bool) (h : 1 ≤ id ∧ id ≤ 64) :
    (st.setCut id cut).wasCut id = cut := by
  have h0 : id ≠ 0 := by omega
  have h1 : id - 1 < 64 := by omega
  simp [Station.setCut, Station.wasCut, h0, h1]

end Sys2Proof.Machine
end

