-- ==== Sys2Proof/Tests/Slice0.lean ====
section
/-! SUPPORT. Tests, every one a named theorem that the kernel evaluates. First the checks of WellFormed; then figures that the
spec works out, each test naming its section; then, for every statement with hypotheses, states and operands that meet them,
each clause at the ends of its range. -/

namespace Sys2Proof.Tests

open Sys2Proof Sys2Proof.Machine

set_option Elab.async false

/-! ### Helper states -/

/-- Station 5 of group 2, with peers 0 and 9. -/
def cfg : ConfigRecord :=
  { stationNumber := 5, group := 2, role := 0, expectedPeers := 0x201#24, sampleRate := 1024, beatInterval := 8, fadeLength := 512,
    levelStep := 1024, initialLevel := 16384, commandMin := BitVec.ofInt 16 (-30000), commandMax := 30000,
    holdOffset := BitVec.ofInt 16 (-400), rateLimit := 20, slipLimit := 2, forceMin := BitVec.ofInt 16 (-20000), forceMax := 20000,
    dispMin := BitVec.ofInt 16 (-20000), dispMax := 20000, trackingLimit := 500, trackingCount := 3, weight := 8192,
    groupLimit := 20000, tripMask := 0x81, holdMask := 0x03, refreshInterval := 4, gainEnable := 1, threshold := 40,
    hysteresis := 15, lowWord := 1, highWord := 2, attentionMask := 0x7fff, reportInterval := 1 }

/-- A state around a station, no command waiting. -/
def on (st : Station) : State := { pending := [], station := st }

/-- The station configured and in IDLE. -/
def idle : Station := Station.reset.configureNow cfg

/-- The same with its reply transmitter free and sending nothing, a READY segment 1 of 16 samples, a playlist that plays it
twice, and an amplifier that is heard and ready. -/
def loaded : Station := { idle with
  segments := idle.segments.set 0 (.ready { firstPage := 0, pageCount := 1, length := 16, expected := 7, computed := 7 })
  schedule := { idle.schedule with playlist := [{ segment := 1, repeats := 2, wait := false }] }
  drive := { idle.drive with ampStatus := some 0x00#8, silence := some 47 } }

/-- The loaded station armed. -/
def armed : Station := loaded.armNow cfg

/-- The position that ARM sets. -/
def start : Position := { pass := 1, whole := 0, fraction := 0, park := .none }

/-- The armed station put into another state, as far as the statements about that state suppose. -/
def inMode (m : Mode) : Station := { armed with ctl := { armed.ctl with
  mode := m, permit := m.isPermit, countdown := if m = .countdown then some 64 else none
  holdRecord := some { first := .host, origin := 5, pass := 1, whole := 0, fraction := 0 } } }

/-- The idle station with the record of an id replaced. -/
def withSegment (id : Nat) (x : Segment) : Station := idle.setSegment id x

/-- A LOADING record of a length, with the samples received and the next part. -/
def loading (length received next : Nat) (expected : BitVec 16) : Segment :=
  .loading { firstPage := 0, pageCount := 1, length := length, expected := expected, computed := 0xFFFF#16 } received next

/-- A peer entry in a state, with the armed station's fingerprint. -/
def peerIn (m : Mode) : PeerEntry :=
  { state := m, group := 2, schedule := armed.fingerprint?.map fun fp => { fingerprint := fp, pass := 1, whole := 0, fraction := 0 },
    holdFlag := false, reasons := 0, share := 0, age := 0, fresh := true, runMark := false, lastControl := none }

/-- A station whose peers 0 and 9 show a state. -/
def withPeers (st : Station) (m : Mode) : Station := (st.setPeer 0 (peerIn m)).setPeer 9 (peerIn m)

/-- The 48 bits of a valid response to a COMMAND. -/
def response (force displacement : Int) (status : Byte) : BitVec 48 :=
  let data := beBytes 2 (BitVec.ofInt 16 force).toNat ++ beBytes 2 (BitVec.ofInt 16 displacement).toNat ++ [status]
  BitVec.ofNat 48 (ofBe (data ++ [crc8 data]))

/-- A reply of a kind. -/
def replyOf (kind : Byte) : HostReply := { kind := kind, code := .ok, body := [] }

/-- A station whose transmitter is sending, with a reply place, buffers and a busy queue. -/
def port (reply : Option HostReply) (buffers : List HostFrame) (busy : List Byte) : Station :=
  { idle with port := { idle.port with sending := some (replyOf 1), reply := reply, buffers := buffers, busy := busy } }

/-- All the states. -/
def modes : List Mode :=
  [.unconfigured, .idle, .armed, .countdown, .rampIn, .playing, .rampOutMoving, .rampOutParked, .held, .ending, .complete, .tripped]

/-! ### WellFormed refuses each ill-formed command -/

theorem test_wf_segment_data_too_long : (Instr.segmentData 1 0 (List.replicate 54 0#16)).wellFormed = false := by decide
theorem test_wf_segment_data_longest : (Instr.segmentData 1 0 (List.replicate 53 0#16)).wellFormed = true := by decide
theorem test_wf_refused_frame_is_good : (Instr.hostFrameRefused (frameOf .status)).wellFormed = false := by decide +kernel
theorem test_wf_refused_frame_too_long :
    (Instr.hostFrameRefused (.whole 1 (List.replicate 113 0#8) 0)).wellFormed = false := by decide +kernel
theorem test_wf_refused_frame : (Instr.hostFrameRefused (.overLong 0xFF#8)).wellFormed = true := by decide
theorem test_wf_dropped_frame_is_valid :
    (Instr.frameDropped ⟨RigFrame.bytes { sender := 9, body := .trip 1 }, true⟩).wellFormed = false := by decide +kernel
/-- Bytes past the CRC are no part of the frame (R133). -/
theorem test_wf_dropped_frame_with_bytes_after :
    (Instr.frameDropped ⟨RigFrame.bytes { sender := 9, body := .trip 1 } ++ [0x55#8], true⟩).wellFormed = false := by decide +kernel
theorem test_wf_dropped_frame : (Instr.frameDropped ⟨[9, 1], true⟩).wellFormed = true := by decide

/-! ### Figures of the spec -/

/-- 11.6: the digits 1 to 9 give $29B1 from $FFFF and $31C3 from $0000. -/
theorem test_crc16_check_values :
    crc16 crcInitHost [0x31, 0x32, 0x33, 0x34, 0x35, 0x36, 0x37, 0x38, 0x39] = 0x29B1#16 ∧
    crc16 crcInitLink [0x31, 0x32, 0x33, 0x34, 0x35, 0x36, 0x37, 0x38, 0x39] = 0x31C3#16 := by decide +kernel

/-- 11.6: five bytes of $FF check to $DE and five of $00 to $39, so a stuck line fails. -/
theorem test_crc8_stuck_line : crc8 (List.replicate 5 0xFF#8) = 0xDE#8 ∧ crc8 (List.replicate 5 0x00#8) = 0x39#8 ∧
    responseValid (BitVec.allOnes 48) = false ∧ responseValid 0 = false := by decide +kernel

/-- 3.10: the interpolations on a falling slope, and the update's own. -/
theorem test_interpolation : interpolate 100 90 0 = 100 ∧ interpolate 100 90 13107 = 98 ∧ interpolate 100 90 32768 = 95 ∧
    interpolate 100 90 65535 = 90 ∧ interpolate 1200 1500 32768 = 1350 := by decide

/-- 3.10: level 1.25 and a fade at one half. -/
theorem test_level_and_fade : scaleLevel 1350 20480 = 1688 ∧ scaleFade 1688 16384 = 844 ∧ moveFade .rampIn 16320 64 = 16384 := by
  decide

/-- 3.11.1: the level at its upper bound; the tie at 8192 goes away from zero. -/
theorem test_level_bound : scaleLevel 8191 65535 = 32764 ∧ scaleLevel 8192 65535 = 32768 ∧ scaleLevel 32767 65535 = 131066 ∧
    scaleLevel (-8192) 65535 = -32768 := by decide

/-- 3.11.2: a sample of −32768 is stored as −32767. -/
theorem test_stored_sample : storedSample 0x8000#16 = 0x8001#16 ∧ interpolate (-32767) (-32000) 16384 = -32576 := by decide

/-- 3.11.3: the rate limit at a limit. -/
theorem test_rate_limit : limitRate 29200 30000 20 = 29980 ∧ limitRate 30000 29960 20 = 29980 ∧ limitRate 30000 29980 20 = 30000 := by
  decide

/-- 3.11.4: the level moves toward its target. -/
theorem test_move_level : moveLevel 16384 20480 1024 = 17408 ∧ moveLevel 20000 20480 1024 = 20480 := by decide

/-- 3.11.5 and 3.11.6: fade steps and their short last step. -/
theorem test_fade_steps : fadeStep { cfg with fadeLength := 3000 } = 10 ∧ fadeStep { cfg with fadeLength := 65535 } = 1 ∧
    fadeStep cfg = 64 ∧ moveFade .rampIn 32740 64 = 32768 ∧ moveFade .ending 30 64 = 0 := by decide

/-- 5.9: the median of five, its trim and two others. -/
theorem test_trim : medianOf [0, 69152, 10848, 32768, -81072] = 10848 ∧ trimOf 10848 16384 = 256 ∧ trimOf (-100) 16384 = -3 ∧
    trimOf (-20000) 16384 = -256 ∧ medianOf [0, 10848, 32768, 69152] = 10848 := by decide +kernel

/-- 5.9 and 5.10: timeline errors, the second across a pass end. -/
theorem test_timeline_error :
    timelineError { fingerprint := 0, pass := 3, whole := 999999, fraction := 60000 } 1 16384 1500000
      { pass := 3, whole := 1000000, fraction := 0, park := .none } = 10848 ∧
    timelineError { fingerprint := 0, pass := 2, whole := 0, fraction := 10000 } 2 16384 40480
      { pass := 1, whole := 40479, fraction := 30000, park := .none } = 78304 := by decide +kernel

/-- 5.12: the share of station 5, a tie that goes away from zero. -/
theorem test_load_share : loadShare { cfg with weight := 8192 } (-9001) = -4501 ∧
    loadShare { cfg with weight := BitVec.ofInt 16 (-16384) } (-15000) = 15000 := by decide

/-- 6.7: the keys of a HOLD, a BEAT and a TRIP. -/
theorem test_keys : RigFrame.key { sender := 0, body := .hold 0 } = 32 ∧ RigFrame.key { sender := 5, body := .beat (idle.beatNow cfg) } = 69 ∧
    RigFrame.key { sender := 9, body := .trip 1 } = 9 := by decide

/-- 11.4: a TRIP of station 9 with cause AMP on the line; key $09, kind $01, cause $01, then its CRC. -/
theorem test_trip_frame_bytes : ((RigFrame.bytes { sender := 9, body := .trip 1 }).take 3) = [0x09#8, 0x01#8, 0x01#8] ∧
    (RigFrame.bytes { sender := 9, body := .trip 1 }).length = 5 := by decide +kernel

/-- 9.4 and 11.2: a SCHEDULE-PASSES of 513 is kind $0A with its two bytes, low byte first. -/
theorem test_request_bytes : (wireBytes (frameOf (.schedulePasses 513))).take 5 = [0xA5#8, 0x02#8, 0x0A#8, 0x01#8, 0x02#8] := by
  decide +kernel

/-- The station of 2.9: segments 4 and 9, three entries, P = 2. -/
def scheduled : Station :=
  let st := (withSegment 4 (.ready { firstPage := 0, pageCount := 1, length := 5000, expected := 7, computed := 7 })).setSegment 9
    (.ready { firstPage := 1, pageCount := 1, length := 2048, expected := 7, computed := 7 })
  let st1 : Station := { st with schedule := { st.schedule with
    passes := 2
    playlist := [{ segment := 4, repeats := 3, wait := false }, { segment := 9, repeats := 10, wait := true },
      { segment := 4, repeats := 1, wait := false }] } }
  st1.armNow cfg

/-- What a whole position of that station maps to. -/
def mapped (whole : Nat) : Option (Nat × Nat × Nat) := (scheduled.mapWhole whole).map fun m => (m.index, m.repetition, m.sample)

/-- 2.9: the tables and the mapping. -/
theorem test_mapping : scheduled.passLength = 40480 ∧ scheduled.entryStarts = [0, 15000, 35480] ∧ mapped 0 = some (0, 0, 0) ∧
    mapped 4999 = some (0, 0, 4999) ∧ mapped 12345 = some (0, 2, 2345) ∧ mapped 15000 = some (1, 0, 0) ∧
    mapped 35479 = some (1, 9, 2047) ∧ mapped 35480 = some (2, 0, 0) ∧ mapped 40479 = some (2, 0, 4999) := by decide +kernel

/-- 2.9: the bytes under the fingerprint. -/
theorem test_fingerprint_bytes : scheduled.schedule.playlist.flatMap scheduled.entryBytes =
    [0x04, 0x88, 0x13, 0x00, 0x00, 0x03, 0x00, 0x00, 0x09, 0x00, 0x08, 0x00, 0x00, 0x0A, 0x00, 0x01,
      0x04, 0x88, 0x13, 0x00, 0x00, 0x01, 0x00, 0x00] := by decide +kernel

/-- One advance of that station, PLAYING, from a position with an increment: the position and the state after it. -/
def advanced (pass whole fraction increment : Nat) : Option Position × Mode :=
  let st := ({ scheduled with ctl := { scheduled.ctl with mode := .playing } } : Station).setPosition
    { pass := pass, whole := whole, fraction := fraction, park := .none }
  let after := (st.setIncrement increment).advance cfg
  (after.engine.position, after.ctl.mode)

/-- 2.10: cases a, b and d. -/
theorem test_advance : advanced 1 20000 40000 16640 = (some { pass := 1, whole := 20000, fraction := 56640, park := .none }, .playing) ∧
    advanced 1 9999 50000 16384 = (some { pass := 1, whole := 10000, fraction := 848, park := .none }, .playing) ∧
    advanced 1 35479 50000 16384 = (some { pass := 1, whole := 35479, fraction := 0, park := .wait }, .rampOutParked) := by
  decide +kernel

/-- 2.10: cases e and f. -/
theorem test_advance_pass_end :
    advanced 1 40479 65000 16384 = (some { pass := 2, whole := 0, fraction := 15848, park := .none }, .playing) ∧
    advanced 2 40479 65000 16384 = (some { pass := 2, whole := 40479, fraction := 0, park := .finish }, .ending) := by decide +kernel

/-- 2.10: the resume position after a WAIT park. -/
theorem test_resume_position :
    scheduled.resumePosition { pass := 1, whole := 35479, fraction := 0, park := .wait } = (1, 35480) ∧
    scheduled.resumePosition { pass := 1, whole := 12345, fraction := 30000, park := .none } = (1, 12345) := by decide +kernel

/-- The band after an offer that moves by r, from a band (7.11: threshold 40, hysteresis 15). -/
def bandAfter (b : Band) (r : Int) : Option Band :=
  (({ idle with drive := { idle.drive with band := some b } } : Station).evaluateBand cfg { command := r, previous := 0 }).drive.band

/-- 7.11: r = 45 rises to HIGH, 26 stays and 24 falls. -/
theorem test_band : bandAfter .low 45 = some .high ∧ bandAfter .low 30 = some .low ∧ bandAfter .high 26 = some .high ∧
    bandAfter .high 24 = some .low := by decide +kernel

/-- A feedback's tracking count and state, PLAYING with a count (8.8: limit 500, M = 3). -/
def tracked (count : Nat) (answered force : Int) : Nat × Mode :=
  let st : Station := { inMode .playing with sup := { armed.sup with trackCount := count } }
  let after := st.trackCheck cfg answered force 0
  (after.sup.trackCount, after.ctl.mode)

/-- 8.8: feedbacks 4, 5 and 7. -/
theorem test_tracking : tracked 2 2030 1580 = (0, .playing) ∧ tracked 0 2040 1340 = (1, .playing) ∧
    tracked 2 2060 1160 = (0, .rampOutMoving) := by decide +kernel

/-- 8.9: FAULT in the trip mask trips PLAYING; OVERHEAT in the hold mask alone brings a moving RAMP-OUT. -/
theorem test_masks : ((inMode .playing).supervise cfg 0 0 0x01#8 0).ctl.mode = .tripped ∧
    ((inMode .playing).supervise cfg 0 0 0x02#8 0).ctl.mode = .rampOutMoving := by decide +kernel

/-- 7.12: the 48th update without a valid response trips, and the COMMAND of that update carries its own c. -/
theorem test_silence_trip :
    (({ inMode .playing with drive := { armed.drive with silence := some 47 } } : Station).configuredUpdate cfg 0 0).ctl.mode = .tripped ∧
    (({ inMode .playing with drive := { armed.drive with silence := some 46 } } : Station).configuredUpdate cfg 0 0).ctl.mode = .playing := by
  decide +kernel

/-- R131: a HOLD that its sender aborts is not counted at the sender; the bad frame after it is, and so is one that another
station drives on to its end after the abort. -/
theorem test_own_abort_is_not_counted :
    let aborted := ((armed.placeControl (holdBody 1)).beginAttempt cfg).abortAttempt cfg
    let st := aborted.badFrameEnds false
    st.link.linkErrors = 0 ∧ st.link.aborts = 1 ∧ (st.badFrameEnds false).link.linkErrors = 1 ∧
    (aborted.badFrameEnds true).link.linkErrors = 1 := by decide +kernel

/-- R108: a peer last shown TRIPPED that goes STALE adds LOST. -/
theorem test_stale_tripped_peer_is_lost :
    let st := ((inMode .playing).setPeer 0 { peerIn .tripped with fresh := false }).setPeer 9 (peerIn .playing)
    (st.consistencyCheck cfg).ctl.reasons = HoldReason.lost.bit := by decide +kernel

/-- R135: another station's GO with the own number and the very fields of the own one is a clash, the mark clear. -/
theorem test_twin_frame_is_a_clash :
    let st : Station := { armed with link := { armed.link with ownEnded := some { sender := 5, body := .hold 1 } } }
    (st.receive cfg ⟨5, false⟩ (.hold 1)).ctl.clash = true ∧ (st.receive cfg ⟨5, true⟩ (.hold 1)).ctl.clash = false := by
  decide +kernel

/-! ### The hypotheses of the statements are met -/

/-- No record of a station is LOADING when none of its 64 is. -/
theorem no_loading {st : Station} (h : ∀ i : Fin 64, st.segments[i].isLoading = false) (k : Nat) :
    (st.segment k).isLoading = false := by
  unfold Station.segment
  split
  · rfl
  · by_cases hk : k - 1 < 64
    · have := h ⟨k - 1, hk⟩
      simpa [Vector.getElem?_eq_getElem hk] using this
    · rw [Vector.getElem?_eq_none (by omega)]; rfl

/-- A ready peer, as R106 says it, is one that peerReady finds so. -/
theorem ready_of {st : Station} {t : Tables} {m : Mode} {k : StationNo} (ht : st.schedule.tables = some t)
    (h : st.peerReady m k = true) : ∃ e x, st.peer k = some e ∧ e.fresh = true ∧ e.state = m ∧ e.schedule = some x ∧
      x.fingerprint = t.fingerprint := by
  unfold Station.peerReady Station.agrees Station.fingerprint? at h
  rw [ht] at h
  split at h
  · cases h
  · next e he =>
    cases hx : e.schedule with
    | none => simp [hx] at h
    | some x =>
      simp only [hx, Option.map_some, Bool.and_eq_true, beq_iff_eq] at h
      exact ⟨e, x, he, h.1.1, h.1.2, hx, h.2⟩

theorem witness_StepRunsTheFrontCommand : State.reset.pending = [] := rfl

theorem witness_HoldReasonTaken : (∀ m ∈ modes, (inMode m).engine.position = some start ∧ (inMode m).ctl.mode = m) ∧
    idle.engine.position = none ∧ idle.ctl.mode = .idle ∧ Station.reset.ctl.mode = .unconfigured := by decide +kernel

theorem witness_TripTaken : (∀ m ∈ modes, (inMode m).engine.position = some start) ∧
    (inMode .armed).ctl.mode.isPermit = true ∧ (inMode .complete).ctl.mode.isPermit = true ∧
    (inMode .tripped).ctl.mode.isPermit = false ∧ idle.engine.position = none ∧ idle.ctl.mode.isPermit = false := by decide +kernel

theorem witness_ReadRequestsAnswer : idle.Serves ∧ idle.port.sending = none ∧ (port none [] []).port.sending ≠ none ∧
    ¬ (24#8).toNat < 24 ∧ ¬ (255#8).toNat < 24 ∧ idle.config = some cfg ∧ Station.reset.Serves ∧ Station.reset.config = none ∧
    (0 : StationNo) ≠ own cfg ∧ (23 : StationNo) ≠ own cfg ∧ idle.peer 23 = none ∧ (withPeers armed .armed).Serves ∧
    (withPeers armed .armed).peer 0 = some (peerIn .armed) := by decide +kernel

theorem witness_ReadBodiesSpellTheirFields : idle.pinned 1 = false ∧ armed.pinned 1 = true ∧ armed.statusBody.length = 107 ∧
    Station.reset.statusBody.length = 107 := by decide +kernel

/-- A record whose first field fails, and one whose last checked field alone fails. -/
theorem witness_ConfigureDecides : Station.reset.Serves ∧ Station.reset.ctl.mode = .unconfigured ∧
    ({ Station.reset with estopLine := true } : Station).Serves ∧ idle.Serves ∧ idle.ctl.mode ≠ .unconfigured ∧
    (1, false) ∈ recordChecks { cfg with stationNumber := 24 } ∧
    (∀ j, j < 1 → (j, false) ∉ recordChecks { cfg with stationNumber := 24 }) ∧
    (31, false) ∈ recordChecks { cfg with attentionMask := 0x8000#16 } ∧
    (∀ j, j < 31 → (j, false) ∉ recordChecks { cfg with attentionMask := 0x8000#16 }) := by decide +kernel

theorem witness_ConfigureDecides_legal : ∀ index, (index, false) ∉ recordChecks cfg := by
  intro index h
  have hl : ∀ c ∈ recordChecks cfg, c.2 = true := by decide
  exact absurd (hl _ h) (by simp)

theorem witness_SegmentOpenTaken : idle.Serves ∧ idle.ctl.mode ≠ .unconfigured ∧ idle.segment 1 = .empty ∧ idle.segment 64 = .empty ∧
    idle.runFree 0 1 = true ∧ idle.runFree 0 ((4194304 + 8191) / 8192) = true ∧
    loaded.Serves ∧ loaded.segment 2 = .empty ∧ loaded.runFree 1 2 = true ∧ (∀ g, g < 1 → loaded.runFree g 2 = false) := by
  decide +kernel

theorem witness_SegmentOpenTaken_no_loading : (∀ k, (idle.segment k).isLoading = false) ∧ ∀ k, (loaded.segment k).isLoading = false :=
  ⟨no_loading (by decide +kernel), no_loading (by decide +kernel)⟩

theorem witness_SegmentOpenRefused : Station.reset.Serves ∧ Station.reset.ctl.mode = .unconfigured ∧ idle.Serves ∧
    idle.ctl.mode ≠ .unconfigured ∧ ¬ (1 ≤ (0#8).toNat ∧ (0#8).toNat ≤ 64) ∧ ¬ (1 ≤ (65#8).toNat ∧ (65#8).toNat ≤ 64) ∧
    loaded.segment 1 ≠ .empty ∧ (withSegment 2 (loading 16 0 0 0)).Serves ∧ (withSegment 2 (loading 16 0 0 0)).segment 1 = .empty ∧
    ((withSegment 2 (loading 16 0 0 0)).segment 2).isLoading = true ∧ ¬ (16 ≤ (15#32).toNat) ∧ ¬ ((4194305#32).toNat ≤ 4194304) := by
  decide +kernel

/-- A store whose 512 pages are all taken. -/
def full : Station := withSegment 1 (.ready { firstPage := 0, pageCount := 512, length := 4194304, expected := 7, computed := 7 })

theorem witness_SegmentOpenRefused_full : full.Serves ∧ full.segment 2 = .empty ∧ (∀ k, (full.segment k).isLoading = false) ∧
    ∀ f, full.runFree f ((16 + 8191) / 8192) = false := by
  refine ⟨by decide +kernel, by decide +kernel, no_loading (by decide +kernel), fun f => ?_⟩
  by_cases hf : f < 512
  · have h : ∀ i : Fin 512, full.runFree i.val 1 = false := by decide +kernel
    exact h ⟨f, hf⟩
  · simp [Station.runFree, pageTotal]
    omega

/-- A whole part that is not the last; a last part of 16 with the right and with a wrong checksum; a last part of 1. -/
theorem witness_SegmentDataTaken :
    (withSegment 1 (loading 64 0 0 0)).Serves ∧ (withSegment 1 (loading 64 0 0 0)).ctl.mode ≠ .unconfigured ∧
    (withSegment 1 (loading 64 0 0 0)).segment 1 = loading 64 0 0 0 ∧ (List.replicate 48 (5#16)).length = 48 ∧
    (withSegment 64 (loading 16 0 0 0)).Serves ∧ (withSegment 64 (loading 16 0 0 0)).segment 64 = loading 16 0 0 0 ∧
    crc16 0xFFFF#16 ((List.replicate 16 (5#16)).flatMap sampleBytes) ≠ 0 ∧
    (withSegment 1 (loading 49 48 1 0)).Serves ∧ (withSegment 1 (loading 49 48 1 0)).segment 1 = loading 49 48 1 0 := by
  decide +kernel

theorem witness_SegmentDataTaken_right_checksum :
    (withSegment 1 (loading 16 0 0 (crc16 0xFFFF#16 ((List.replicate 16 (5#16)).flatMap sampleBytes)))).Serves ∧
    (withSegment 1 (loading 16 0 0 (crc16 0xFFFF#16 ((List.replicate 16 (5#16)).flatMap sampleBytes)))).segment 1 =
      loading 16 0 0 (crc16 0xFFFF#16 ((List.replicate 16 (5#16)).flatMap sampleBytes)) := by decide +kernel

theorem witness_SegmentDataRefused : Station.reset.Serves ∧ Station.reset.ctl.mode = .unconfigured ∧ idle.Serves ∧
    idle.ctl.mode ≠ .unconfigured ∧ (idle.segment 64).isLoading = false ∧ (withSegment 1 (loading 64 0 0 0)).Serves ∧
    (withSegment 1 (loading 64 0 0 0)).segment 1 = loading 64 0 0 0 ∧ (1#32).toNat ≠ 0 ∧ ¬ (1 ≤ ([] : List Sample).length) ∧
    ¬ ((List.replicate 49 (5#16)).length ≤ 48) ∧ 64 < 17 + (List.replicate 48 (5#16)).length ∧
    0 + (List.replicate 47 (5#16)).length < 64 := by decide +kernel

/-- Segment 1 opened again after a discard that ended its loading, before a part of the new loading is taken and after. -/
def reopened (received next : Nat) : Station :=
  { ((idle.setSegment 1 (loading 64 0 0 0)).takeSegmentDiscard 0x05#8 1).setSegment 1 (loading 64 received next 0) with
    port := idle.port }

/-- R13: before the first part of the new loading, part 1 of the old one is BAD-STATE; R8: after it, every part but the awaited
one is OUT-OF-ORDER. -/
theorem test_part_of_a_discarded_loading :
    (reopened 0 0).takeSegmentData 0x04#8 1 1 [] = (reopened 0 0).answer 0x04#8 .badState [] ∧
    (reopened 48 1).takeSegmentData 0x04#8 1 2 [] = (reopened 48 1).answer 0x04#8 .outOfOrder [1, 0, 0] := by decide +kernel

theorem witness_SegmentDataRefused_cut : ∀ x ∈ [(0, 0), (48, 1)],
    (reopened x.1 x.2).Serves ∧ (reopened x.1 x.2).wasCut 1 = true ∧ (reopened x.1 x.2).segment 1 = loading 64 x.1 x.2 0 ∧
    (reopened x.1 x.2).ctl.mode ≠ .unconfigured ∧ (2#32).toNat ≠ x.2 ∧ 2#32 ≠ 0#32 := by decide +kernel

theorem witness_WrittenSamplesReadBack : Store.wf [] = true ∧ 4194303 + [0x8000#16].length ≤ 4194304 ∧
    Store.wf [(3, 7#16)] = true ∧ 0 + [1#16, 0#16, 0x8000#16, 4#16].length ≤ 4194304 := by decide

theorem witness_SegmentDiscardDecides : Station.reset.Serves ∧ Station.reset.ctl.mode = .unconfigured ∧ idle.Serves ∧
    idle.segment 64 = .empty ∧ armed.Serves ∧ armed.segment 1 ≠ .empty ∧
    (∃ e ∈ armed.schedule.playlist, e.segment = (1#8).toNat) ∧ armed.ctl.mode ≠ .unconfigured ∧ armed.ctl.mode ≠ .idle ∧
    loaded.Serves ∧ loaded.segment 1 ≠ .empty ∧ loaded.ctl.mode = .idle := by decide +kernel

/-- A playlist of n entries in IDLE. -/
def withEntries (n : Nat) : Station :=
  { idle with schedule := { idle.schedule with playlist := List.replicate n { segment := 1, repeats := 1, wait := false } } }

theorem witness_PlaylistAppendDecides : armed.Serves ∧ armed.ctl.mode ≠ .idle ∧ idle.Serves ∧ idle.ctl.mode = .idle ∧
    (withEntries 95).Serves ∧ (withEntries 95).ctl.mode = .idle ∧ (withEntries 95).schedule.playlist.length < 96 ∧
    (withEntries 96).Serves ∧ (withEntries 96).ctl.mode = .idle ∧ 96 ≤ (withEntries 96).schedule.playlist.length ∧
    (1#16) ≠ 0#16 ∧ (65535#16) ≠ 0#16 ∧ 2 ≤ (2#8).toNat ∧ (1#8).toNat ≤ 1 := by decide +kernel

theorem witness_PlaylistClearAndPassesInIdle : loaded.Serves ∧ loaded.ctl.mode = .idle ∧ armed.Serves ∧ armed.ctl.mode ≠ .idle := by
  decide +kernel

theorem witness_PositionsMapAndInterpolate : scheduled.schedule.tables = some scheduled.computeTables ∧
    (∀ e ∈ scheduled.schedule.playlist, 0 < scheduled.span e) ∧ 0 < scheduled.passLength ∧ 40479 < scheduled.passLength ∧
    (65535 < 65536) := by decide +kernel

/-- A position of the station of 2.9. -/
def at' (pass whole : Nat) (park : Park) : Position := { pass := pass, whole := whole, fraction := 65535, park := park }

/-- Each case of the single step at an end of its range: the last sample of the final pass and of the one before it, the WAIT
end at 35479 and its two neighbours, and a parked position. -/
theorem witness_ScheduleSteps : scheduled.schedule.tables = some scheduled.computeTables ∧
    scheduled.computeTables.passLength = 40480 ∧ scheduled.schedule.passes = 2 ∧
    (scheduled.singleStep (at' 2 40479 .none)).2 = .endPark ∧ (scheduled.singleStep (at' 1 40479 .none)).2 = .passEnd ∧
    (scheduled.singleStep (at' 1 35479 .none)).2 = .waitPark ∧ (scheduled.singleStep (at' 1 35478 .none)).2 = .nothing ∧
    (scheduled.singleStep (at' 1 35480 .none)).2 = .nothing ∧
    scheduled.singleStep (at' 1 0 .wait) = (at' 1 0 .wait, .nothing) := by decide +kernel

theorem witness_ScheduleSteps_reports : (∀ m ∈ modes, (inMode m).ctl.mode = m) ∧ scheduled.engine.position = some start ∧
    scheduled.engine.regs.isSome = true ∧ (0 + 65535 < 65536) ∧ (65535 + 33280 < 131072) ∧
    scheduled.segment 4 = .ready { firstPage := 0, pageCount := 1, length := 5000, expected := 7, computed := 7 } ∧
    (scheduled.mapWhole 0).isSome = true := by decide +kernel

theorem witness_ArmTaken : loaded.Serves ∧ loaded.config = some cfg ∧ loaded.incrementOk = true ∧ loaded.ctl.mode = .idle ∧
    loaded.schedule.playlist ≠ [] ∧ (∀ e ∈ loaded.schedule.playlist, (loaded.segment e.segment).isReady = true) ∧
    loaded.drive.silence = some 47 ∧ loaded.drive.ampStatus = some 0x00#8 ∧ (0x00#8).getLsbD 7 = false ∧
    loaded.sup.estopTaken ≠ some true ∧ loaded.ctl.clash = false := by decide +kernel

/-- The loaded station with its second entry's segment EMPTY, unheard, not ready, under ESTOP, and after a clash. -/
theorem witness_ArmRefused : armed.Serves ∧ armed.ctl.mode ≠ .idle ∧ idle.Serves ∧ idle.schedule.playlist = [] ∧
    idle.config = some cfg ∧ (withEntries 1).Serves ∧ ((withEntries 1).segment 1).isReady = false ∧ loaded.Serves ∧
    loaded.ctl.mode = .idle ∧ loaded.schedule.playlist ≠ [] ∧
    (∀ e ∈ loaded.schedule.playlist, (loaded.segment e.segment).isReady = true) ∧
    (0x80#8).getLsbD 7 = true ∧
    ({ loaded with sup := { loaded.sup with estopTaken := some true } } : Station).Serves ∧
    ({ loaded with ctl := { loaded.ctl with clash := true } } : Station).Serves := by decide +kernel

/-- The silence that refuses ARM, at its bound, and the status that does. -/
theorem witness_ArmRefused_unheard :
    (¬ ∃ n, ({ loaded with drive := { loaded.drive with silence := some 48 } } : Station).drive.silence = some n ∧ n < 48) ∧
    (∃ n, loaded.drive.silence = some n ∧ n < 48) ∧
    (¬ ∃ a : AmpStatus, ({ loaded with drive := { loaded.drive with ampStatus := some 0x80#8 } } : Station).drive.ampStatus = some a ∧
      a.getLsbD 7 = false) ∧
    (∃ a : AmpStatus, loaded.drive.ampStatus = some a ∧ a.getLsbD 7 = false) := by
  refine ⟨?_, ⟨47, by decide +kernel⟩, ?_, ⟨0x00#8, by decide +kernel⟩⟩
  · rintro ⟨n, h, hn⟩
    simp only [Option.some.injEq] at h
    omega
  · rintro ⟨a, h, ha⟩
    simp only [Option.some.injEq] at h
    subst h
    exact absurd ha (by decide)

theorem witness_DisarmAndClearTripEnterIdle :
    (∀ m ∈ modes, (inMode m).Serves ∧ (inMode m).config = some cfg ∧ (inMode m).ctl.mode = m ∧ (inMode m).sup.estopTaken ≠ some true) ∧
    ({ inMode .tripped with sup := { armed.sup with estopTaken := some true } } : Station).Serves := by decide +kernel

/-- Positions at the ends of the schedule of 32 samples and one pass; peers that are ready, and one that is not. -/
theorem witness_StartDecides : idle.Serves ∧ idle.ctl.mode ≠ .armed ∧ armed.Serves ∧ armed.config = some cfg ∧ armed.ctl.mode = .armed ∧
    armed.schedule.tables = some armed.computeTables ∧ armed.computeTables.passLength = 32 ∧ armed.schedule.passes = 1 ∧
    expects cfg 0 = true ∧ expects cfg 9 = true ∧ armed.peer 0 = none ∧
    (withPeers armed .armed).Serves ∧ (withPeers armed .armed).config = some cfg ∧ (withPeers armed .armed).ctl.mode = .armed ∧
    (∀ k : StationNo, expects cfg k = true → (withPeers armed .armed).peerReady .armed k = true) := by decide +kernel

theorem witness_StartDecides_ready : ∀ k : StationNo, expects cfg k = true → ∃ e x, (withPeers armed .armed).peer k = some e ∧
    e.fresh = true ∧ e.state = .armed ∧ e.schedule = some x ∧ x.fingerprint = armed.computeTables.fingerprint := by
  have h : ∀ k : StationNo, expects cfg k = true → (withPeers armed .armed).peerReady .armed k = true := by decide +kernel
  exact fun k hk => ready_of (by decide +kernel) (h k hk)

theorem witness_ResumeDecides : (inMode .held).Serves ∧ (inMode .held).config = some cfg ∧
    (inMode .held).engine.position = some start ∧ (inMode .held).schedule.tables = some armed.computeTables ∧
    (inMode .held).ctl.mode = .held ∧ start.park ≠ .finish ∧ (inMode .held).ctl.reasons &&& 0b1111111000#10 = 0#10 ∧
    (inMode .playing).Serves ∧ (inMode .playing).ctl.mode ≠ .held ∧ idle.Serves ∧ idle.ctl.mode ≠ .held ∧
    Station.reset.Serves ∧ Station.reset.ctl.mode ≠ .held ∧
    ((inMode .held).setPosition { start with park := .finish }).Serves ∧
    ((inMode .held).insertReason .window).Serves ∧
    ((inMode .held).insertReason .window).ctl.reasons &&& 0b1111111000#10 ≠ 0#10 ∧ (inMode .held).peer 0 = none ∧
    (withPeers (inMode .held) .held).Serves := by decide +kernel

theorem witness_ResumeDecides_ready : ∀ k : StationNo, expects cfg k = true → ∃ e x, (withPeers (inMode .held) .held).peer k = some e ∧
    e.fresh = true ∧ e.state = .held ∧ e.schedule = some x ∧ x.fingerprint = armed.computeTables.fingerprint := by
  have h : ∀ k : StationNo, expects cfg k = true → (withPeers (inMode .held) .held).peerReady .held k = true := by decide +kernel
  exact fun k hk => ready_of (by decide +kernel) (h k hk)

theorem witness_HoldAndAcknowledgeDecide : (∀ m ∈ modes, (inMode m).Serves ∧ (inMode m).config = some cfg ∧
    (inMode m).ctl.mode = m) ∧ Station.reset.Serves ∧ Station.reset.ctl.mode = .unconfigured ∧
    (inMode .held).ctl.mode ≠ .unconfigured := by decide +kernel

theorem witness_AbortDecides : (inMode .playing).Serves ∧ (inMode .playing).config = some cfg ∧
    (inMode .playing).ctl.mode.isPermit = true ∧ idle.Serves ∧ idle.ctl.mode.isPermit = false := by decide +kernel

/-- The idle station with n side words queued. -/
def withWords (n : Nat) : Station := { idle with drive := { idle.drive with sideQueue := List.replicate n 7#32 } }

theorem witness_SetLevelAndSideRequestsDecide : Station.reset.Serves ∧ Station.reset.ctl.mode = .unconfigured ∧ idle.Serves ∧
    idle.ctl.mode ≠ .unconfigured ∧ idle.engine.regs = some (configuredRegs cfg) ∧ (withWords 3).Serves ∧
    (withWords 3).ctl.mode ≠ .unconfigured ∧ (withWords 3).drive.sideQueue.length < 4 ∧ (withWords 4).Serves ∧
    4 ≤ (withWords 4).drive.sideQueue.length := by decide +kernel

theorem witness_EventsClearAndReportRate : Station.reset.Serves ∧ Station.reset.ctl.mode = .unconfigured ∧ idle.Serves ∧
    idle.ctl.mode ≠ .unconfigured := by decide +kernel

/-- The idle station sending the OK of STATION-RESET. -/
def resetting : Station := { idle with port := { idle.port with sending := some (replyOf 0x1B#8) } }

theorem witness_StationResetWaitsForItsReply : idle.Serves ∧ resetting.running = true ∧
    resetting.port.sending = some { kind := 0x1B#8, code := .ok, body := [] } ∧
    (∀ body, idle.port.sending ≠ some { kind := 0x1B#8, code := .ok, body := body }) := by
  refine ⟨by decide +kernel, by decide +kernel, by decide +kernel, fun body h => ?_⟩
  have hn : idle.port.sending = none := by decide +kernel
  rw [hn] at h
  cases h

theorem witness_RequestsWaitTheirTurn : (∀ x ∈ [port (some (replyOf 1)) [.overLong 1] [],
      port (some (replyOf 1)) [.overLong 1, .overLong 2] (List.replicate 7 1#8),
      port (some (replyOf 1)) [.overLong 1, .overLong 2] (List.replicate 8 1#8)],
    x.running = true ∧ x.port.reply ≠ none ∧ x.port.sending ≠ none) ∧ resetting.running = true ∧ resetting.port.reply = none ∧
    resetting.port.sending = some { kind := 0x1B#8, code := .ok, body := [] } ∧ resetting.port.buffers.length < 2 := by
  decide +kernel

theorem witness_RefusedFrameIsAnswered : idle.Serves ∧ idle.PortOk ∧ (0#16) ≠ hostCrc 1 [] ∧ (0#8).toNat = 0 ∧ 27 < (28#8).toNat ∧
    sizeAllowed 0x02#8 (List.replicate 59 0#8).length = some false ∧ sizeAllowed 0x04#8 (List.replicate 6 0#8).length = some false ∧
    sizeAllowed 0x01#8 [0#8].length = some false := by decide +kernel

theorem witness_HostBytesMakeAFrame : Station.reset.running = true ∧ Station.reset.port.receiver = .hunting ∧
    Station.reset.port.partialTimer = none ∧ payloadFits (.whole 1 (List.replicate 112 0#8) 0) = true ∧
    payloadFits (.whole 1 [] 0) = true ∧ payloadFits (.overLong 1) = true ∧ 112 < (113#8).toNat ∧ 112 < (255#8).toNat := by
  decide +kernel

/-- A station collecting a frame, its timer one below the bound. -/
def collecting (st : Station) : Station :=
  { st with port := { st.port with receiver := .collecting [0xA5#8], partialTimer := some 63 } }

/-- The idle station one update before a report, for n = 1 and n = 255. -/
def reporting (n : Nat) : Station :=
  { idle with port := { idle.port with reportInterval := some n, reportTimer := some (n * 64 - 1) } }

theorem witness_HostPortTimers : Station.reset.running = true ∧ Station.reset.port.receiver = .hunting ∧ (0xA4#8) ≠ 0xA5#8 ∧
    (collecting Station.reset).running = true ∧ (collecting Station.reset).port.receiver = .collecting [0xA5#8] ∧
    (collecting Station.reset).port.partialTimer = some 63 ∧ (collecting Station.reset).port.byteSeen = false ∧
    (collecting Station.reset).config = none ∧ (reporting 1).running = true ∧ (reporting 1).config = some cfg ∧
    (reporting 1).port.reportTimer = some (1 * 64 - 1) ∧ (reporting 255).port.reportTimer = some (255 * 64 - 1) ∧
    (reporting 255).port.reportTaken = false ∧ (reporting 1).port.sending = none ∧ (reporting 1).port.reply = none ∧
    (reporting 1).port.busy = [] ∧
    ({ reporting 1 with port := { (reporting 1).port with sending := some (replyOf 1) } } : Station).port.sending ≠ none := by
  decide +kernel

/-- The UPDATE's counts at the ends of their ranges: a timer one and two below 64, a byte seen, a report one and two counts
off, n = 0, and a count taken already. -/
theorem witness_HostPortTimers_update : (collecting idle).RunsIn cfg ∧ (collecting idle).port.partialTimer = some 63 ∧
    (collecting idle).port.byteSeen = false ∧
    ({ collecting idle with port := { (collecting idle).port with partialTimer := some 62 } } : Station).RunsIn cfg ∧
    ({ collecting idle with port := { (collecting idle).port with byteSeen := true } } : Station).RunsIn cfg ∧
    (reporting 1).RunsIn cfg ∧ 1 * 64 ≤ (1 * 64 - 1) + 1 ∧ (1 * 64 - 2) + 1 < 1 * 64 ∧ (reporting 0).RunsIn cfg ∧
    (reporting 0).port.reportTimer = some 0 ∧ (reporting 1).port.reportTaken = false ∧
    ({ reporting 1 with port := { (reporting 1).port with reportTaken := true } } : Station).RunsIn cfg := by decide +kernel

theorem witness_TransmitterTakesInOrder : ∀ x ∈ [port (some (replyOf 2)) [] [], port (some (replyOf 2)) [.overLong 1] [3#8],
      port (some (replyOf 0x1B#8)) [.overLong 1] [], port none [] [3#8], port none [] []],
    x.running = true ∧ x.PortOk ∧ x.port.sending = some (replyOf 1) ∧
      ¬ ((replyOf 1).kind = 0x1B#8 ∧ (replyOf 1).code = .ok) ∧ (replyOf 0x1B#8).kind = 0x1B#8 := by decide +kernel

theorem witness_UpdateComputesTheCommand : legalRecord cfg = true ∧ ∀ m ∈ modes,
    (inMode m).RunsIn cfg ∧ (inMode m).engine.regs = some (configuredRegs cfg) ∧ (inMode m).engine.fadeEnd = none ∧
      (inMode m).peers.beatDue = false ∧ (inMode m).ctl.mode = m ∧
      ¬ ((inMode m).ctl.mode = .countdown ∧ (inMode m).ctl.countdown = some 0) := by decide +kernel

/-- The drive line with a last command, a refresh count and a previous kind. -/
def driven (last : Option Int) (refresh : Nat) (kind : TransferKind) : Station :=
  { idle with drive := { idle.drive with lastSent := last, refresh := some refresh, previousKind := kind } }

theorem witness_DriveSlotsSend : (driven none 0 .none).drive.lastSent ≠ some 5 ∧
    (driven (some 5) 3 .command).drive.refresh.getD 0 + 1 = cfg.refreshInterval.toNat ∧
    (driven (some 5) 0 .side).drive.previousKind = .side ∧ (driven (some 5) 0 .auto).drive.previousKind = .auto ∧
    ¬ ((driven (some 5) 2 .command).drive.lastSent ≠ some 5 ∨
      (driven (some 5) 2 .command).drive.refresh.getD 0 + 1 = cfg.refreshInterval.toNat ∨
      (driven (some 5) 2 .command).drive.previousKind = .side ∨ (driven (some 5) 2 .command).drive.previousKind = .auto) ∧
    idle.drive.autoSlot = some cfg.lowWord ∧
    ({ withWords 4 with drive := { (withWords 4).drive with autoSlot := none } } : Station).drive.sideQueue.length = 4 := by
  decide +kernel

/-- The idle station with an offer that moves the command by r, in a band. -/
def offering (b : Band) (r : Int) : Station := { idle with
  engine := { idle.engine with offered := some { command := r, previous := 0 } }, drive := { idle.drive with band := some b } }

/-- Offers at the threshold of 40 and below it, at 40 − 15 and below it; no offer; silence one and two below 48. -/
theorem witness_DriveSlotsSend_update : cfg.gainEnable = 1#8 ∧ (offering .low 40).engine.offered.isSome = true ∧
    cfg.threshold.toNat ≤ 40 ∧ ¬ cfg.threshold.toNat ≤ 39 ∧ 24 + cfg.hysteresis.toNat < cfg.threshold.toNat ∧
    ¬ 25 + cfg.hysteresis.toNat < cfg.threshold.toNat ∧ (offering .high 24).drive.band = some .high ∧
    idle.engine.offered = none ∧ idle.RunsIn cfg ∧ idle.engine.fadeEnd = none ∧ idle.peers.beatDue = false ∧
    idle.ctl.mode ≠ .countdown := by decide +kernel

/-- A PLAYING station that has answered 500, with a tracking count. -/
def answering (m : Mode) (count : Nat) : Station :=
  { inMode m with drive := { armed.drive with answered := some 500 }, sup := { armed.sup with trackCount := count } }

/-- Responses whose error is the limit and one past it, whose force is at and past its window; an invalid one; and counts one
and two below M. -/
theorem witness_FeedbackIsJudged : (answering .playing 0).drive.answered = some 500 ∧ responseValid 0 = false ∧
    responseValid (response 0 0 0) = true ∧ ((response 0 0 0).extractLsb' 8 8) &&& cfg.tripMask = 0#8 ∧
    ((response 0 0 0).extractLsb' 8 8) &&& cfg.holdMask = 0#8 ∧ ((response 0 0 0).extractLsb' 32 16).toInt = 0 ∧
    responseValid (response (-1) 0 0) = true ∧ ((response (-1) 0 0).extractLsb' 32 16).toInt = -1 ∧
    responseValid (response 20000 0 0) = true ∧ windowOf cfg.forceMin.toInt cfg.forceMax.toInt 20000 = .inside ∧
    responseValid (response 20001 0 0) = true ∧ windowOf cfg.forceMin.toInt cfg.forceMax.toInt 20001 ≠ .inside ∧
    (answering .playing 1).sup.trackCount + 1 < cfg.trackingCount.toNat ∧
    cfg.trackingCount.toNat ≤ (answering .playing 2).sup.trackCount + 1 ∧
    (answering .playing 0).ctl.mode.inRunGroup = true ∧ (answering .armed 0).ctl.mode.inRunGroup = false := by decide +kernel

/-- A status in the trip mask and one in the hold mask alone, in a valid response; in a permit state, in IDLE and in
TRIPPED. -/
theorem witness_FeedbackIsJudged_masks : responseValid (response 0 0 0x01#8) = true ∧
    ((response 0 0 0x01#8).extractLsb' 8 8) &&& cfg.tripMask ≠ 0#8 ∧ responseValid (response 0 0 0x02#8) = true ∧
    ((response 0 0 0x02#8).extractLsb' 8 8) &&& cfg.tripMask = 0#8 ∧ ((response 0 0 0x02#8).extractLsb' 8 8) &&& cfg.holdMask ≠ 0#8 ∧
    (answering .playing 0).ctl.mode.isPermit = true ∧ (answering .idle 0).ctl.mode = .idle ∧
    (answering .tripped 0).ctl.mode.isPermit = false ∧ (answering .tripped 0).ctl.mode ≠ .idle := by decide +kernel

/-- A station with the end of a fade reported. -/
def faded (m : Mode) (e : FadeEnd) : Station := { inMode m with engine := { armed.engine with fadeEnd := some e } }

theorem witness_ReportsAreTaken : (answering .playing 2).RunsIn cfg ∧ (answering .playing 2).ctl.mode.inRunGroup = true ∧
    (answering .playing 2).sup.trackCount + 1 = cfg.trackingCount.toNat ∧
    ({ idle with drive := { idle.drive with silence := some 48 } } : Station).RunsIn cfg ∧
    ({ inMode .countdown with ctl := { (inMode .countdown).ctl with countdown := some 0 } } : Station).RunsIn cfg ∧
    (faded .rampIn .rampIn).RunsIn cfg ∧ (faded .rampIn .rampIn).ctl.mode = .rampIn ∧
    (faded .rampOutMoving .rampOut).RunsIn cfg ∧ (faded .rampOutParked .rampOut).RunsIn cfg ∧ (faded .ending .rampOut).RunsIn cfg := by
  decide +kernel

/-- An entry at the silence limit of 32, and one that far past it that its age still counts. -/
theorem witness_PeerTurnsStale : ∀ age ∈ [32, 65534],
    (armed.setPeer 9 { peerIn .armed with age := age }).RunsIn cfg ∧
    (armed.setPeer 9 { peerIn .armed with age := age }).peer 9 = some { peerIn .armed with age := age } ∧
    (peerIn .armed).fresh = true ∧ age < 65535 ∧ 4 * cfg.beatInterval.toNat < age + 1 ∧
    (armed.setPeer 9 { peerIn .armed with age := age }).peers.tickTaken = false := by decide +kernel

/-- The update of a station whose tick has been taken ahead, and of one whose entry turns STALE in it. -/
theorem witness_PeerTurnsStale_update : ({ idle with peers := { idle.peers with tickTaken := true } } : Station).RunsIn cfg ∧
    idle.peers.tickTaken = false ∧ (armed.setPeer 9 { peerIn .armed with age := 32 }).RunsIn cfg ∧
    4 * cfg.beatInterval.toNat < min 65535 (32 + 1) := by decide +kernel

/-- A station with a beat instant to take, and one whose next tick brings one. -/
theorem witness_BeatInstantWork :
    (∀ m ∈ [Mode.idle, .playing], ({ inMode m with peers := { armed.peers with beatDue := true } } : Station).RunsIn cfg) ∧
    (inMode .idle).ctl.mode.inRunGroup = false ∧ (inMode .playing).ctl.mode.inRunGroup = true ∧
    (inMode .playing).engine.fadeEnd = none ∧ (inMode .playing).ctl.mode ≠ .countdown ∧
    ({ idle with peers := { idle.peers with beatCounter := some 7 } } : Station).RunsIn cfg ∧
    ({ idle with peers := { idle.peers with beatCounter := some 7 } } : Station).peers.beatDue = false ∧
    ({ idle with peers := { idle.peers with beatCounter := some 7 } } : Station).beatNext cfg = true := by decide +kernel

/-- Peers 0 and 9 in a state, peer 9 as given. -/
def withNine (e : PeerEntry) : Station := ((inMode .playing).setPeer 0 (peerIn .playing)).setPeer 9 e

/-- The check's cases: no entry, a STALE one, another fingerprint, ARMED with the run mark, TRIPPED with and without it, and
peers that pass. -/
theorem witness_BeatInstantChecks : expects cfg 0 = true ∧ expects cfg 9 = true ∧ (inMode .playing).peer 0 = none ∧
    (inMode .playing).ctl.mode.inRunGroup = true ∧ (inMode .idle).ctl.mode.inRunGroup = false ∧
    (withNine { peerIn .playing with fresh := false }).failsCheck 9 = true ∧
    (withNine { peerIn .playing with schedule := none }).failsCheck 9 = true ∧
    (withNine { peerIn .armed with runMark := true }).failsCheck 9 = true ∧ (withNine (peerIn .armed)).failsCheck 9 = false ∧
    (withNine { peerIn .tripped with runMark := true }).showsTripped 9 = true ∧
    (withNine (peerIn .tripped)).showsTripped 9 = false ∧
    (∀ k : StationNo, expects cfg k = true → (withNine (peerIn .playing)).failsCheck k = false) := by decide +kernel

/-- Pass differences of 1 and 2, the trim at its bounds, a group sum at its limit of 20000 and past it. -/
theorem witness_BeatInstantChecks_trim : passDifference 2 1 = 1 ∧ passDifference 3 1 = 2 ∧ passDifference 0 1 = -1 ∧
    (withNine (peerIn .playing)).ctl.mode.isMoving = true ∧ (withNine (peerIn .playing)).engine.position = some start ∧
    (withNine (peerIn .playing)).schedule.tables.isSome = true ∧ (inMode .idle).ctl.mode.isMoving = false ∧
    (Int.tdiv 8223 32).natAbs ≤ 16384 / 64 ∧ ((16384 / 64 : Nat) : Int) < Int.tdiv 8224 32 ∧
    Int.tdiv (-8224) 32 < -((16384 / 64 : Nat) : Int) ∧ ([0] : List Int) ≠ [] ∧ cfg.groupLimit.toNat ≠ 0 ∧
    cfg.groupLimit.toNat < (20001 : Int).natAbs ∧ ¬ cfg.groupLimit.toNat < (20000 : Int).natAbs := by decide +kernel

/-- The armed station with a frame in its slots. -/
def queued : Station := (armed.placeTrip .amp).placeControl (holdBody 1)

theorem witness_IdlePointLatchesTheLowestClass : queued.RunsIn cfg ∧ queued.link.ownEnded = none ∧ queued.link.attempt = none ∧
    queued.link.tripSlot = some { body := .trip 1, latched := false } ∧ (armed.placeControl (holdBody 1)).RunsIn cfg ∧
    (armed.placeControl (holdBody 1)).link.tripSlot = none ∧ armed.refillBeat.RunsIn cfg ∧ armed.refillBeat.link.controlSlot = none ∧
    armed.refillBeat.link.beatSlot = true ∧ armed.RunsIn cfg ∧ armed.link.beatSlot = false ∧
    ({ armed with link := { armed.link with ownEnded := some { sender := 5, body := .hold 1 } } } : Station).RunsIn cfg ∧
    armed.schedule.tables ≠ none ∧ armed.engine.position = some start ∧ idle.schedule.tables = none := by
  decide +kernel

/-- An attempt from each slot, with an abort count at each end. -/
theorem witness_AttemptOutcomes : ∀ st ∈ [queued, armed.placeControl (holdBody 1), armed.refillBeat], ∀ n ∈ [0, 14, 15],
    let x : Station := st.beginAttempt cfg
    let y : Station := { x with link := { x.link with aborts := n } }
    y.RunsIn cfg ∧ y.link.attempt.isSome = true ∧ y.link.aborts = n := by decide +kernel

theorem witness_BadFramesAreDropped : idle.RunsIn cfg ∧ readFrame [] = none ∧ idle.link.ownAborted = false ∧
    ({ idle with link := { idle.link with ownAborted := true } } : Station).RunsIn cfg ∧ frameLength 0x01#8 = some 5 ∧
    [0x01#8, 0#8].length + 2 < 5 ∧ (0x29#8).toNat / 32 ≠ 0 ∧ 24 ≤ (0x18#8).toNat % 32 ∧ 5 < (0x06#8).toNat ∧
    readFrame (RigFrame.bytes { sender := 9, body := .trip 1 }) = some { sender := 9, body := .trip 1 } := by decide +kernel

/-- A BEAT of an expected peer with its hold flag, one that shows TRIPPED, and one with neither. -/
theorem witness_BeatIsEntered : (∀ m ∈ [Mode.idle, .countdown, .rampIn, .playing, .held],
    (inMode m).RunsIn cfg ∧ (inMode m).link.ownEnded = none ∧ (inMode m).link.ownAborted = false) ∧ (9 : StationNo) ≠ own cfg ∧
    expects cfg 9 = true ∧ (1#8).getLsbD 0 = true ∧ (11#8).toNat = 11 ∧ (inMode .held).ctl.mode.inRunGroup = true := by
  decide +kernel

/-- The station just after it has completed a frame of its own. -/
def completed (m : Mode) (body : FrameBody) : Station :=
  { inMode m with link := { armed.link with ownEnded := some { sender := own cfg, body := body } } }

/-- The station just after its own BEAT, and a frame that comes then: the own one, and one of station 9. -/
theorem witness_FramesAreTakenInOrder : (completed .armed (.beat (armed.beatNow cfg))).RunsIn cfg ∧
    (completed .armed (.hold 1)).link.ownEnded = some { sender := own cfg, body := .hold 1 } ∧
    (completed .armed (.hold 1)).link.ownEnded ≠ some { sender := 9, body := .hold 1 } ∧ armed.link.ownEnded = none ∧
    (completed .armed (.hold 1)).link.ownAborted = false := by decide +kernel

theorem witness_GoFrameDecides : armed.RunsIn cfg ∧ (9 : StationNo) ≠ own cfg ∧ armed.link.ownEnded = none ∧
    armed.link.ownAborted = false ∧ armed.ctl.mode = .armed ∧
    armed.matchesSchedule armed.computeTables.fingerprint 1 0 = true ∧
    armed.matchesSchedule armed.computeTables.fingerprint 1 31 = true ∧
    armed.matchesSchedule armed.computeTables.fingerprint 1 32 = false ∧
    (completed .armed (.go armed.computeTables.fingerprint 1 0)).RunsIn cfg ∧
    (completed .armed (.go armed.computeTables.fingerprint 1 0)).matchesSchedule armed.computeTables.fingerprint 1 0 = true ∧
    (completed .playing (.go 0 1 0)).RunsIn cfg ∧ (completed .playing (.go 0 1 0)).ctl.mode ≠ .armed := by decide +kernel

theorem witness_HoldFrameDecides : (∀ m ∈ modes, (inMode m).RunsIn cfg ∧ (inMode m).ctl.mode = m ∧
    (inMode m).link.ownEnded = none ∧ (inMode m).link.ownAborted = false) ∧
    (9 : StationNo) ≠ own cfg ∧ (completed .held (.hold 1)).RunsIn cfg := by decide +kernel

theorem witness_ResumeFrameDecides : (inMode .held).RunsIn cfg ∧ (9 : StationNo) ≠ own cfg ∧
    (inMode .held).link.ownEnded = none ∧ (inMode .held).link.ownAborted = false ∧
    (inMode .held).matchesSchedule armed.computeTables.fingerprint 1 31 = true ∧
    (inMode .held).ctl.reasons &&& 0b1111111000#10 = 0#10 ∧
    ((inMode .held).insertReason .window).RunsIn cfg ∧
    ((inMode .held).insertReason .window).ctl.reasons &&& 0b1111111000#10 ≠ 0#10 ∧
    ((inMode .held).insertReason .window).matchesSchedule armed.computeTables.fingerprint 1 0 = true ∧
    (inMode .held).matchesSchedule armed.computeTables.fingerprint 2 0 = false ∧
    (completed .held (.resume armed.computeTables.fingerprint 1 0)).RunsIn cfg ∧
    (completed .held (.resume armed.computeTables.fingerprint 1 0)).matchesSchedule armed.computeTables.fingerprint 1 0 = true ∧
    (completed .held (.resume 0 2 0)).matchesSchedule 0 2 0 = false ∧
    ((completed .held (.resume armed.computeTables.fingerprint 1 0)).insertReason .window).RunsIn cfg := by decide +kernel

theorem witness_TripFrameDecides : (inMode .playing).RunsIn cfg ∧ (9 : StationNo) ≠ own cfg ∧
    (inMode .playing).link.ownEnded = none ∧ (inMode .playing).link.ownAborted = false ∧
    (inMode .playing).ctl.mode.isPermit = true ∧ (inMode .tripped).ctl.mode.isPermit = false ∧
    (completed .armed (.trip 1)).RunsIn cfg ∧ armed.peer 9 = none ∧
    (withPeers armed .armed).peer 9 = some (peerIn .armed) := by decide +kernel

theorem witness_ClashIsReported : (inMode .playing).RunsIn cfg ∧ (inMode .playing).link.ownEnded = none ∧
    (inMode .playing).link.ownAborted = false ∧ (inMode .playing).ctl.mode.inRunGroup = true ∧ idle.RunsIn cfg ∧
    idle.link.ownEnded = none ∧ idle.ctl.mode.inRunGroup = false ∧ armed.RunsIn cfg ∧ armed.ctl.mode = .armed ∧
    armed.matchesSchedule armed.computeTables.fingerprint 1 31 = true ∧ ((inMode .held).reportClash cfg).ctl.mode = .held ∧
    ((inMode .countdown).reportClash cfg).ctl.mode = .held ∧
    (inMode .held).matchesSchedule armed.computeTables.fingerprint 1 0 = true := by decide +kernel

theorem witness_LineCommandsDecide : idle.running = true ∧ idle.config = some cfg ∧ idle.sup.estopTaken ≠ some true ∧
    ({ idle with sup := { idle.sup with estopTaken := some true } } : Station).running = true ∧
    Station.reset.running = true ∧ Station.reset.config = none ∧ ({ Station.reset with resetLine := true } : Station).resetLine = true ∧
    Station.reset.resetLine = false ∧ ({ Station.reset with resetLine := true } : Station).running = false ∧
    ({ Station.reset with power := false } : Station).running = false := by decide +kernel

/-- The armed station meets every premise of the statements about every step, and a step is answered. -/
theorem witness_StepKeeps : armed.ControllerOk ∧ armed.AttentionOk ∧ armed.StoreOk ∧ armed.RegsOk ∧ armed.fadeOk = true ∧
    armed.recordOk = true ∧ armed.commandOk = true ∧ armed.incrementOk = true ∧ armed.peersOk = true := by decide +kernel

theorem witness_StepKeeps_link_and_port : armed.SlotsOk ∧ armed.CountersOk ∧ armed.PortOk := by decide +kernel

theorem witness_StepKeeps_answered : (match step { pending := [.status], station := armed } with
      | .next _ => true
      | .fault _ => false
      | .refused _ => false) = true := by decide +kernel

theorem witness_StepKeeps_schedule : armed.SegmentsOk ∧ armed.ScheduleOk := by decide +kernel

theorem witness_FramesReadBack : (List.replicate 53 (5#16)).length ≤ 53 ∧ (List.replicate 0 (5#16)).length ≤ 53 := by decide

end Sys2Proof.Tests
end

section
/-! PLAYLIST-APPEND (R21). A request that is served at once is the taking of it by the block that owns it; the taking of
an append has one equation per row of the table of R21, and one for the accepted entry. -/

namespace Sys2Proof.Machine

/-! ### A request at the host port -/

/-- The command of a request runs the host port on the station and leaves the queue (9.4). -/
theorem exec_commandOf (r : Request) (s : State) :
    exec (commandOf r) s = .next (s.withStation (s.station.hostRequest r)) := by
  cases r <;> rfl

/-- Where a request is served at once, its command is the taking of it by the block that owns it (R176). -/
theorem exec_commandOf_serves {s : State} (h : s.station.Serves) (r : Request) :
    exec (commandOf r) s = .next (s.withStation (s.station.takeRequest r)) := by
  rw [exec_commandOf, Station.hostRequest_serves h]

/-! ### Segment ids -/

theorem isSegmentId_eq_true_iff (id : Nat) : isSegmentId id = true ↔ 1 ≤ id ∧ id ≤ 64 := decide_eq_true_iff

/-! ### The checks of R21 -/

section
variable {st : Station} {id : BitVec 8} {repeats : BitVec 16} {wait : BitVec 8} (kind : Byte)

/-- R21, check 1. -/
theorem Station.takePlaylistAppend_notIdle (hmode : st.ctl.mode ≠ .idle) :
    st.takePlaylistAppend kind id repeats wait = st.answer kind .badState [] := by
  simp [takePlaylistAppend, hmode]

/-- R21, check 2. -/
theorem Station.takePlaylistAppend_noSegment (hmode : st.ctl.mode = .idle) (hid : isSegmentId id.toNat = false) :
    st.takePlaylistAppend kind id repeats wait = st.answer kind .noSegment [] := by
  simp [takePlaylistAppend, hmode, hid]

/-- R21, check 3. -/
theorem Station.takePlaylistAppend_noRepeats (hmode : st.ctl.mode = .idle) (hid : isSegmentId id.toNat = true)
    (hrepeats : repeats.toNat < 1) :
    st.takePlaylistAppend kind id repeats wait = st.answer kind .badArg [] := by
  simp [takePlaylistAppend, hmode, hid, hrepeats]

/-- R21, check 4. -/
theorem Station.takePlaylistAppend_badWait (hmode : st.ctl.mode = .idle) (hid : isSegmentId id.toNat = true)
    (hrepeats : ¬ repeats.toNat < 1) (hwait : 1 < wait.toNat) :
    st.takePlaylistAppend kind id repeats wait = st.answer kind .badArg [] := by
  simp [takePlaylistAppend, hmode, hid, hrepeats, hwait]

/-- R21, check 5. -/
theorem Station.takePlaylistAppend_full (hmode : st.ctl.mode = .idle) (hid : isSegmentId id.toNat = true)
    (hrepeats : ¬ repeats.toNat < 1) (hwait : ¬ 1 < wait.toNat) (hfull : playlistCapacity ≤ st.schedule.playlist.length) :
    st.takePlaylistAppend kind id repeats wait = st.answer kind .full [] := by
  simp [takePlaylistAppend, hmode, hid, hrepeats, hwait, hfull]

/-- R21, every check passed: the entry joins the end, and the reply carries its index and the new number of entries. -/
theorem Station.takePlaylistAppend_accepted (hmode : st.ctl.mode = .idle) (hid : isSegmentId id.toNat = true)
    (hrepeats : ¬ repeats.toNat < 1) (hwait : ¬ 1 < wait.toNat) (hroom : ¬ playlistCapacity ≤ st.schedule.playlist.length) :
    st.takePlaylistAppend kind id repeats wait =
      ({ st with schedule := { st.schedule with playlist := st.schedule.playlist ++
          [{ segment := id.toNat, repeats := repeats.toNat, wait := decide (wait = 1#8) }] } } : Station).answer kind .ok
        [BitVec.ofNat 8 st.schedule.playlist.length, BitVec.ofNat 8 (st.schedule.playlist.length + 1)] := by
  simp [takePlaylistAppend, hmode, hid, hrepeats, hwait, hroom, codeByte, beq_eq_decide]

end

/-- Settles O15: an append that is served at once is its taking, and each clause is one row of R21. -/
theorem playlistAppendDecides : Obligations.PlaylistAppendDecides := by
  unfold Obligations.PlaylistAppendDecides
  intro s id repeats wait hserves
  have taken : exec (.playlistAppend id repeats wait) s =
      .next (s.withStation (s.station.takePlaylistAppend 0x07#8 id repeats wait)) :=
    exec_commandOf_serves hserves (.playlistAppend id repeats wait)
  have repeats_pos (h : repeats ≠ 0#16) : ¬ repeats.toNat < 1 := by bv_omega
  simp only [taken, ← isSegmentId_eq_true_iff, Bool.not_eq_true]
  refine ⟨fun hmode => ?_, fun hmode hid => ?_, fun hmode hid hrepeats => ?_, fun hmode hid hrepeats hwait => ?_,
    fun hmode hid hrepeats hwait hfull => ?_, fun hmode hid hrepeats hwait hroom => ?_⟩
  · rw [Station.takePlaylistAppend_notIdle _ hmode]
  · rw [Station.takePlaylistAppend_noSegment _ hmode hid]
  · rw [Station.takePlaylistAppend_noRepeats _ hmode hid (by simp [hrepeats])]
  · rw [Station.takePlaylistAppend_badWait _ hmode hid (repeats_pos hrepeats) hwait]
  · rw [Station.takePlaylistAppend_full _ hmode hid (repeats_pos hrepeats) (Nat.not_lt.mpr hwait) hfull]
  · rw [Station.takePlaylistAppend_accepted _ hmode hid (repeats_pos hrepeats) (Nat.not_lt.mpr hwait) (Nat.not_le.mpr hroom)]

end Sys2Proof.Machine
end

section
/-! THE COMMAND ENVELOPE (R53 to R59). A configured station whose every command lies in the envelope is one predicate over
the configuration in force, `Station.CommandsIn`. Most operations leave all that it speaks of alone (`Station.SameCommands`).
Three others do not: a trip, which brings the offset everywhere; the steps 2 to 7 of an update, which clamp and then limit the
rate; and slot A, which sends what is offered. -/

namespace Sys2Proof.Machine

/-! ### The arithmetic of the envelope (R53, R55, R200) -/

section
variable {cfg : ConfigRecord} {c p : Int}

theorem allowed_iff : allowed cfg c = true ↔ cMin cfg ≤ c ∧ c ≤ cMax cfg := by
  simp [allowed]

/-- The hold offset of a legal record may be commanded: check 12 of CONFIGURE (R187). -/
theorem allowed_offset (legal : legalRecord cfg = true) : allowed cfg (offset cfg) = true := by
  have check := List.all_eq_true.mp legal (12, decide (cMin cfg ≤ offset cfg ∧ offset cfg ≤ cMax cfg))
    (by simp [recordChecks])
  exact allowed_iff.mpr (of_decide_eq_true check)

/-- What step 5 leaves may be commanded (R53). -/
theorem allowed_clampInt (legal : legalRecord cfg = true) (x : Int) :
    allowed cfg (clampInt (cMin cfg) (cMax cfg) x) = true := by
  have := allowed_iff.mp (allowed_offset legal)
  rw [allowed_iff]
  unfold clampInt
  split_ifs <;> omega

/-- Step 6 ends between c_prev and c1, so it leaves the envelope of neither (R55). -/
theorem allowed_limitRate (hc : allowed cfg c = true) (hp : allowed cfg p = true) (rmax : Nat) :
    allowed cfg (limitRate c p rmax) = true := by
  rw [allowed_iff] at *
  unfold limitRate
  split_ifs <;> omega

/-- Step 6 moves from c_prev by no more than Rmax (R55). -/
theorem natAbs_limitRate_sub_le (c p : Int) (rmax : Nat) : (limitRate c p rmax - p).natAbs ≤ rmax := by
  unfold limitRate
  split_ifs <;> omega

/-- The upper half of a COMMAND datagram reads back as the command, which the 16-bit limits keep within a word (R200). -/
theorem commandDatagram_upper (h : allowed cfg c = true) :
    ((commandDatagram c).word.extractLsb' 16 16).toInt = c := by
  have low : -32768 ≤ cMin cfg := BitVec.le_toInt cfg.commandMin
  have high : cMax cfg < 32768 := BitVec.toInt_lt
  have upper : (commandDatagram c).word.extractLsb' 16 16 = BitVec.ofInt 16 c := BitVec.extractLsb'_append_eq_left
  obtain ⟨above, below⟩ := allowed_iff.mp h
  rw [upper, BitVec.toInt_ofInt, Int.bmod_eq_of_le] <;> omega

end

/-! ### The commands of a station -/

/-- c and c_prev, absent with the engine's registers (R37). -/
def Station.commands (st : Station) : Option (Int × Int) := st.engine.regs.map fun r => (r.command, r.commandPrev)

/-- The offer that stands in TRIPPED, and c and c_prev with it (R59). -/
def restingOffer (cfg : ConfigRecord) : Offer := { command := offset cfg, previous := offset cfg }

/-- An offer in the envelope: both commands allowed, and no more than Rmax apart (R53, R55, R57). -/
def Offer.Within (o : Offer) (cfg : ConfigRecord) : Prop :=
  allowed cfg o.command = true ∧ allowed cfg o.previous = true ∧ (o.command - o.previous).natAbs ≤ cfg.rateLimit.toNat

theorem restingOffer_within {cfg : ConfigRecord} (legal : legalRecord cfg = true) : (restingOffer cfg).Within cfg := by
  simp [Offer.Within, restingOffer, allowed_offset legal]

/-- A station with cfg in force, whose every command lies in the envelope of cfg (R53 to R59). -/
structure Station.CommandsIn (st : Station) (cfg : ConfigRecord) : Prop where
  config : st.config = some cfg
  legal : legalRecord cfg = true
  issued : ∃ c p, st.commands = some (c, p) ∧ allowed cfg c = true ∧ allowed cfg p = true
  offered : ∀ o, st.engine.offered = some o → o.Within cfg
  lastSent : ∀ c, st.drive.lastSent = some c → allowed cfg c = true
  datagram : ∀ d, st.drive.outA = some d → ∃ c, allowed cfg c = true ∧ d = commandDatagram c
  resting : st.ctl.mode = .tripped →
    st.commands = some (offset cfg, offset cfg) ∧ st.engine.offered = some (restingOffer cfg)

/-- The three parts of the invariant together: what StepKeepsCommandInEnvelope supposes and concludes. -/
def Station.EnvelopeOk (st : Station) : Prop := st.RegsOk ∧ st.recordOk = true ∧ st.commandOk = true

theorem Station.commandOk_iff {st : Station} {cfg : ConfigRecord} {r : EngineRegs} (config : st.config = some cfg)
    (regs : st.engine.regs = some r) (legal : legalRecord cfg = true) : st.commandOk = true ↔ st.CommandsIn cfg := by
  have commands : st.commands = some (r.command, r.commandPrev) := by simp [commands, regs]
  have spelled (d : Datagram) : (d.isCommand = true ∧ d = commandDatagram (d.word.extractLsb' 16 16).toInt) ∧
      allowed cfg (d.word.extractLsb' 16 16).toInt = true ↔ ∃ c, allowed cfg c = true ∧ d = commandDatagram c := by
    constructor
    · rintro ⟨⟨-, hd⟩, hc⟩
      exact ⟨_, hc, hd⟩
    · rintro ⟨c, hc, rfl⟩
      simp only [commandDatagram_upper hc, hc, and_true]
      rfl
  have parts : st.commandOk = true ↔ ((((allowed cfg r.command = true ∧ allowed cfg r.commandPrev = true) ∧
      (∀ o, st.engine.offered = some o → o.Within cfg)) ∧ (∀ c, st.drive.lastSent = some c → allowed cfg c = true)) ∧
      (∀ d, st.drive.outA = some d → ∃ c, allowed cfg c = true ∧ d = commandDatagram c)) ∧
      (st.ctl.mode = .tripped → (r.command = offset cfg ∧ r.commandPrev = offset cfg) ∧
        st.engine.offered = some (restingOffer cfg)) := by
    simp only [commandOk, config, regs, Option.all_eq_true, Bool.and_eq_true, Bool.or_eq_true, bne_iff_ne, beq_iff_eq,
      decide_eq_true_eq, spelled, Offer.Within, restingOffer, ← imp_iff_not_or, and_assoc]
  rw [parts]
  constructor
  · rintro ⟨⟨⟨⟨⟨hc, hp⟩, ho⟩, hs⟩, hd⟩, ht⟩
    exact ⟨config, legal, ⟨_, _, commands, hc, hp⟩, ho, hs, hd, fun h => by
      obtain ⟨⟨h1, h2⟩, h3⟩ := ht h
      exact ⟨by rw [commands, h1, h2], h3⟩⟩
  · rintro ⟨-, -, ⟨c, p, hcp, hc, hp⟩, ho, hs, hd, ht⟩
    obtain ⟨rfl, rfl⟩ : c = r.command ∧ p = r.commandPrev := by simpa [commands, eq_comm] using hcp
    exact ⟨⟨⟨⟨⟨hc, hp⟩, ho⟩, hs⟩, hd⟩, fun h => by simpa [commands] using ht h⟩

/-- The invariant holds without a configuration and registers, and in the envelope of the configuration in force. -/
theorem Station.envelopeOk_iff {st : Station} :
    st.EnvelopeOk ↔ (st.config = none ∧ st.commands = none) ∨ ∃ cfg, st.CommandsIn cfg := by
  constructor
  · rintro ⟨regsOk, recordOk, commandOk⟩
    rcases hc : st.config with _ | cfg
    · exact .inl ⟨rfl, by simpa [RegsOk, hc, commands] using regsOk⟩
    · obtain ⟨r, hr⟩ := Option.isSome_iff_exists.mp (by simpa [RegsOk, hc] using regsOk)
      exact .inr ⟨cfg, (commandOk_iff hc hr (by simpa [Station.recordOk, hc] using recordOk)).mp commandOk⟩
  · rintro (⟨hc, hr⟩ | ⟨cfg, h⟩)
    · have hr : st.engine.regs = none := by simpa [commands] using hr
      exact ⟨by simp [RegsOk, hc, hr], by simp [recordOk, hc], by simp [commandOk, hc]⟩
    · obtain ⟨c, p, hcp, -, -⟩ := h.issued
      obtain ⟨r, hr, -⟩ := Option.map_eq_some_iff.mp hcp
      exact ⟨by simp [RegsOk, h.config, hr], by simp [recordOk, h.config, h.legal], (commandOk_iff h.config hr h.legal).mpr h⟩

theorem Station.CommandsIn.envelopeOk {st : Station} {cfg : ConfigRecord} (h : st.CommandsIn cfg) : st.EnvelopeOk :=
  envelopeOk_iff.mpr (.inr ⟨cfg, h⟩)

/-! ### Operations that leave the commands alone -/

/-- All that the envelope speaks of, but for the state TRIPPED. -/
def Station.envelope (st : Station) :
    Option ConfigRecord × Option (Int × Int) × Option Offer × Option Int × Option Datagram :=
  (st.config, st.commands, st.engine.offered, st.drive.lastSent, st.drive.outA)

/-- The first station has the commands of the second, and is TRIPPED only if the second is. -/
structure Station.SameCommands (a b : Station) : Prop where
  envelope : a.envelope = b.envelope
  tripped : a.ctl.mode = .tripped → b.ctl.mode = .tripped

theorem Station.SameCommands.refl (a : Station) : a.SameCommands a := ⟨rfl, id⟩

theorem Station.SameCommands.trans {a b c : Station} (h1 : a.SameCommands b) (h2 : b.SameCommands c) : a.SameCommands c :=
  ⟨h1.envelope.trans h2.envelope, h2.tripped ∘ h1.tripped⟩

theorem Station.CommandsIn.of_same {a b : Station} {cfg : ConfigRecord} (h : b.CommandsIn cfg) (same : a.SameCommands b) :
    a.CommandsIn cfg := by
  obtain ⟨parts, tripped⟩ := same
  simp only [Station.envelope, Prod.mk.injEq] at parts
  obtain ⟨hconfig, hcommands, hoffered, hsent, hout⟩ := parts
  exact
    { config := hconfig ▸ h.config
      legal := h.legal
      issued := hcommands ▸ h.issued
      offered := hoffered ▸ h.offered
      lastSent := hsent ▸ h.lastSent
      datagram := hout ▸ h.datagram
      resting := fun ht => by rw [hcommands, hoffered]; exact h.resting (tripped ht) }

theorem Station.EnvelopeOk.of_same {a b : Station} (h : b.EnvelopeOk) (same : a.SameCommands b) : a.EnvelopeOk := by
  rcases envelopeOk_iff.mp h with ⟨hconfig, hcommands⟩ | ⟨cfg, h⟩
  · have parts := same.envelope
    simp only [Station.envelope, Prod.mk.injEq] at parts
    obtain ⟨config, commands, -⟩ := parts
    exact envelopeOk_iff.mpr (.inl ⟨config.trans hconfig, commands.trans hcommands⟩)
  · exact (h.of_same same).envelopeOk

section
variable (st : Station) (cfg : ConfigRecord)

/-! ### The Station Controller leaves the commands alone, but for a trip -/

theorem Station.raise_sameCommands (e : Event) : (st.raise e).SameCommands st := ⟨rfl, id⟩

theorem Station.setIncrement_sameCommands (i : Nat) : (st.setIncrement i).SameCommands st :=
  ⟨by simp [envelope, commands, Function.comp_def], id⟩

theorem Station.zeroFade_sameCommands : st.zeroFade.SameCommands st :=
  ⟨by simp [envelope, commands, Function.comp_def], id⟩

theorem Station.enterMode_sameCommands {m : Mode} (hm : m ≠ .tripped) : (st.enterMode cfg m).SameCommands st := by
  refine ⟨?_, fun h => absurd (by simpa using h) hm⟩
  rw [enterMode_eq]
  cases m.isMoving <;> simp [envelope, commands, Function.comp_def]

theorem Station.startHold_sameCommands (r : HoldReason) (k : StationNo) : (st.startHold r k).SameCommands st := by
  unfold Station.startHold
  simp only
  split <;> exact ⟨rfl, id⟩

theorem Station.takeReason_sameCommands (r : HoldReason) (k : StationNo) : (st.takeReason cfg r k).SameCommands st := by
  have held {m : Mode} (hm : m ≠ .tripped) : (((st.insertReason r).enterMode cfg m).startHold r k).SameCommands st :=
    (startHold_sameCommands _ r k).trans ((enterMode_sameCommands _ cfg hm).trans ⟨rfl, id⟩)
  unfold Station.takeReason
  cases st.ctl.mode with
  | rampIn | playing => exact held (by split <;> decide)
  | countdown => exact held (by decide)
  | rampOutMoving | rampOutParked | held | ending | complete => exact ⟨rfl, id⟩
  | unconfigured | idle | armed | tripped => exact .refl st

theorem Station.reportReason_sameCommands (r : HoldReason) : (st.reportReason cfg r).SameCommands st :=
  takeReason_sameCommands _ _ _ _

theorem Station.enterIdle_sameCommands : (st.enterIdle cfg).SameCommands st := by
  refine (enterMode_sameCommands _ cfg (by decide)).trans ?_
  unfold Station.dropGoAndResume
  split <;> exact ⟨rfl, id⟩

theorem Station.armNow_sameCommands : (st.armNow cfg).SameCommands st :=
  (enterMode_sameCommands _ cfg (by decide)).trans ⟨rfl, id⟩

theorem Station.beginCountdown_sameCommands (pass whole : Nat) : (st.beginCountdown cfg pass whole).SameCommands st :=
  (enterMode_sameCommands _ cfg (by decide)).trans ⟨rfl, id⟩

/-! ### Changes of state and the advance (R39, R40) -/

theorem Station.expireCountdown_sameCommands : (st.expireCountdown cfg).SameCommands st := by
  unfold Station.expireCountdown
  split
  · exact enterMode_sameCommands _ _ (by decide)
  · exact .refl st

theorem Station.endRampIn_sameCommands : (st.endRampIn cfg).SameCommands st := by
  unfold Station.endRampIn
  split
  · exact enterMode_sameCommands _ _ (by decide)
  · exact .refl st

theorem Station.endRampOut_sameCommands : (st.endRampOut cfg).SameCommands st := by
  unfold Station.endRampOut
  split
  · cases st.ctl.mode with
    | rampOutMoving | rampOutParked | ending => exact enterMode_sameCommands _ _ (by decide)
    | unconfigured | idle | armed | countdown | rampIn | playing | held | complete | tripped => exact .refl st
  · exact .refl st

theorem Station.takeReported_sameCommands : (st.takeReported cfg).SameCommands st :=
  (endRampOut_sameCommands _ cfg).trans ((endRampIn_sameCommands _ cfg).trans (expireCountdown_sameCommands st cfg))

theorem Station.countDown_sameCommands : st.countDown.SameCommands st := by
  unfold Station.countDown
  split <;> exact ⟨rfl, id⟩

theorem Station.takeStepReport_sameCommands (r : StepReport) : (st.takeStepReport cfg r).SameCommands st := by
  cases r with
  | nothing => exact .refl st
  | passEnd => exact raise_sameCommands _ _
  | waitPark =>
    show (st.takeWaitPark cfg).SameCommands st
    unfold Station.takeWaitPark
    split
    · exact (enterMode_sameCommands _ _ (by decide)).trans ⟨rfl, id⟩
    all_goals exact reportReason_sameCommands _ _ _
  | endPark =>
    show (st.takeEndPark cfg).SameCommands st
    unfold Station.takeEndPark
    split
    · exact enterMode_sameCommands _ _ (by decide)
    · exact .refl st

theorem Station.advanceBy_sameCommands (n : Nat) : ∀ (x : Station) (p : Position), (x.advanceBy cfg p n).SameCommands x := by
  induction n with
  | zero => intro x p; exact ⟨rfl, id⟩
  | succ n ih => intro x p; exact (ih _ _).trans ((takeStepReport_sameCommands _ _ _).trans ⟨rfl, id⟩)

theorem Station.advance_sameCommands : (st.advance cfg).SameCommands st := by
  unfold Station.advance
  split
  · simp only
    split
    · exact advanceBy_sameCommands _ _ _ _
    · exact .refl st
  · exact .refl st

theorem Station.noteClamp_sameCommands (b : Bool) : (st.noteClamp b).SameCommands st := by
  cases b <;> exact ⟨rfl, id⟩

theorem Station.noteRate_sameCommands (b : Bool) : (st.noteRate b).SameCommands st := by
  cases b <;> exact ⟨rfl, id⟩

/-! ### The Peer Table (R99 to R119) -/

theorem Station.peerTick_sameCommands : (st.peerTick cfg).SameCommands st := by
  obtain ⟨p, e, h⟩ := peerTick_cases st cfg
  rw [h]
  exact ⟨rfl, id⟩

theorem Station.tickPeers_sameCommands : (st.tickPeers cfg).SameCommands st := by
  unfold Station.tickPeers
  split
  · exact ⟨rfl, id⟩
  · exact peerTick_sameCommands _ _

theorem Station.tickAhead_sameCommands : (st.tickAhead cfg).SameCommands st :=
  .trans (b := st.peerTick cfg) ⟨rfl, id⟩ (peerTick_sameCommands st cfg)

theorem Station.makeTrim_sameCommands (p : Position) (n : Nat) : (st.makeTrim cfg p n).SameCommands st := by
  have trimmed (t : TrimResult) (i : Nat) :
      (({ st with peers := { st.peers with lastTrim := some t } } : Station).setIncrement i).SameCommands st :=
    (setIncrement_sameCommands _ i).trans ⟨rfl, id⟩
  unfold Station.makeTrim
  simp only
  split
  · exact (reportReason_sameCommands _ _ _).trans (trimmed _ _)
  · exact trimmed _ _

theorem Station.trimPart_sameCommands : (st.trimPart cfg).SameCommands st := by
  unfold Station.trimPart
  split
  · split
    · exact makeTrim_sameCommands _ _ _ _
    · exact .refl st
  · exact setIncrement_sameCommands _ _

theorem Station.groupCheck_sameCommands : (st.groupCheck cfg).SameCommands st := by
  unfold Station.groupCheck
  split
  · simp only
    split
    · exact (reportReason_sameCommands _ _ _).trans ⟨rfl, id⟩
    · exact ⟨rfl, id⟩
  · exact .refl st

theorem Station.recordControl_sameCommands (k : StationNo) (c : ControlSeen) : (st.recordControl cfg k c).SameCommands st := by
  obtain ⟨p, h⟩ := recordControl_cases st cfg k c
  rw [h]
  exact ⟨rfl, id⟩

theorem Station.enterBeat_sameCommands (k : StationNo) (f : BeatFields) : (st.enterBeat k f).SameCommands st := by
  unfold Station.enterBeat
  simp only
  split <;> exact ⟨rfl, id⟩

theorem Station.testHoldFlag_sameCommands (k : StationNo) (f : BeatFields) : (st.testHoldFlag cfg k f).SameCommands st := by
  unfold Station.testHoldFlag
  split
  · exact takeReason_sameCommands _ _ _ _
  · exact .refl st

/-! ### The rig link (R70, R76, R86, R120, R129 to R134) -/

theorem Station.reportClash_sameCommands : (st.reportClash cfg).SameCommands st := by
  unfold Station.reportClash
  simp only
  split
  · exact (reportReason_sameCommands _ _ _).trans ⟨rfl, id⟩
  · exact ⟨rfl, id⟩

theorem Station.receiveGo_sameCommands (bySelf : Bool) (fp : BitVec 16) (pass : BitVec 32) (whole : BitVec 48) :
    (st.receiveGo cfg bySelf fp pass whole).SameCommands st := by
  have dropped : (if bySelf = false ∧ isGo st.link.controlSlot then st.emptyControl else st).SameCommands st := by
    split <;> exact ⟨rfl, id⟩
  unfold Station.receiveGo
  simp only
  generalize (if bySelf = false ∧ isGo st.link.controlSlot then st.emptyControl else st) = x at dropped ⊢
  split
  · exact (beginCountdown_sameCommands _ cfg _ _).trans
      (.trans (b := x.zeroFade) ⟨rfl, id⟩ ((zeroFade_sameCommands x).trans dropped))
  · exact dropped

theorem Station.receiveHold_sameCommands (k : StationNo) : (st.receiveHold cfg k).SameCommands st := by
  unfold Station.receiveHold
  split
  · exact .refl st
  · cases st.ctl.mode with
    | countdown | rampIn | playing | rampOutMoving | rampOutParked | held => exact takeReason_sameCommands _ _ _ _
    | unconfigured | idle | armed | ending | complete | tripped => exact .refl st

theorem Station.receiveResume_sameCommands (fp : BitVec 16) (pass : BitVec 32) (whole : BitVec 48) :
    (st.receiveResume cfg fp pass whole).SameCommands st := by
  unfold Station.receiveResume
  split
  · split
    · exact (beginCountdown_sameCommands _ cfg _ _).trans ⟨rfl, id⟩
    · exact ⟨rfl, id⟩
  · exact .refl st

theorem Station.beginAttempt_sameCommands : (st.beginAttempt cfg).SameCommands st := by
  unfold Station.beginAttempt
  split <;> exact ⟨rfl, id⟩

theorem Station.completeAttempt_sameCommands (a : Attempt) : (st.completeAttempt a).SameCommands st := ⟨rfl, id⟩

theorem Station.abortLimit_sameCommands : (st.abortLimit cfg).SameCommands st :=
  (reportReason_sameCommands _ cfg _).trans ⟨rfl, id⟩

theorem Station.abortAttempt_sameCommands : (st.abortAttempt cfg).SameCommands st := by
  unfold Station.abortAttempt
  simp only
  split
  · exact (abortLimit_sameCommands _ cfg).trans ⟨rfl, id⟩
  · exact ⟨rfl, id⟩

theorem Station.badFrameEnds_sameCommands (otherDriving : Bool) : (st.badFrameEnds otherDriving).SameCommands st := by
  unfold Station.badFrameEnds
  split <;> exact ⟨rfl, id⟩

/-! ### The Supervision Unit and the drive line (R146 to R165) -/

theorem Station.holdMaskCheck_sameCommands (status : AmpStatus) : (st.holdMaskCheck cfg status).SameCommands st := by
  unfold Station.holdMaskCheck
  split
  · exact reportReason_sameCommands _ _ _
  · exact .refl st

theorem Station.windowCheck_sameCommands (force displacement : Int) :
    (st.windowCheck cfg force displacement).SameCommands st := by
  unfold Station.windowCheck
  split
  · simp only
    split
    · exact (reportReason_sameCommands _ _ _).trans ⟨rfl, id⟩
    · exact ⟨rfl, id⟩
  · exact ⟨rfl, id⟩

theorem Station.trackReached_sameCommands : (st.trackReached cfg).SameCommands st :=
  (reportReason_sameCommands _ cfg _).trans ⟨rfl, id⟩

theorem Station.trackCheck_sameCommands (answered force displacement : Int) :
    (st.trackCheck cfg answered force displacement).SameCommands st := by
  unfold Station.trackCheck
  simp only
  generalize answered - (if roleIsDisplacement cfg then displacement else force) = error
  split
  · split
    · split
      · exact (trackReached_sameCommands _ cfg).trans ⟨rfl, id⟩
      · exact ⟨rfl, id⟩
    · exact ⟨rfl, id⟩
  · exact ⟨rfl, id⟩

theorem Station.evaluateBand_sameCommands (o : Offer) : (st.evaluateBand cfg o).SameCommands st := by
  unfold Station.evaluateBand
  simp only
  split
  · split
    · split <;> exact ⟨rfl, id⟩
    · split <;> exact ⟨rfl, id⟩
    · exact .refl st
  · exact .refl st

/-! ### The host port (R172 to R185) -/

theorem Station.transmitterTake_sameCommands : st.transmitterTake.SameCommands st := by
  obtain ⟨p, h⟩ := transmitterTake_cases st
  rw [h]
  exact ⟨rfl, id⟩

theorem Station.joinBuffers_sameCommands (f : HostFrame) : (st.joinBuffers f).SameCommands st := by
  obtain ⟨p, h⟩ := joinBuffers_cases st f
  rw [h]
  exact ⟨rfl, id⟩

theorem Station.partialTick_sameCommands : st.partialTick.SameCommands st := by
  unfold Station.partialTick
  split
  · exact ⟨rfl, id⟩
  · split <;> exact ⟨rfl, id⟩

theorem Station.reportFalls_sameCommands : st.reportFalls.SameCommands st :=
  (transmitterTake_sameCommands _).trans ⟨rfl, id⟩

theorem Station.reportTick_sameCommands : st.reportTick.SameCommands st := by
  unfold Station.reportTick
  split
  · exact ⟨rfl, id⟩
  · split
    · exact reportFalls_sameCommands st
    · split <;> exact ⟨rfl, id⟩

end

/-! ### A trip brings the offset everywhere (R59, R91) -/

section
variable {st : Station} {cfg : ConfigRecord}

/-- A trip taken sets c and c_prev to O and offers O (R59, R91). -/
theorem Station.takeTrip_commands (permit : st.ctl.mode.isPermit = true) (cause : TripCause) (k : StationNo) :
    (st.takeTrip cfg cause k).commands = st.commands.map (fun _ => (offset cfg, offset cfg)) ∧
    (st.takeTrip cfg cause k).engine.offered = some (restingOffer cfg) := by
  unfold Station.takeTrip
  simp only [permit, if_true, enterMode_eq]
  split <;> simp [commands, Function.comp_def, restingOffer, Mode.isMoving]

theorem Station.CommandsIn.takeTrip (h : st.CommandsIn cfg) (cause : TripCause) (k : StationNo) :
    (st.takeTrip cfg cause k).CommandsIn cfg := by
  by_cases permit : st.ctl.mode.isPermit = true
  · obtain ⟨-, -, -, -, config, -, -, -, drive, -⟩ := takeTrip_same st cfg cause k
    obtain ⟨commands, offered⟩ := takeTrip_commands (cfg := cfg) permit cause k
    obtain ⟨c, p, hcp, -, -⟩ := h.issued
    have atRest : (st.takeTrip cfg cause k).commands = some (offset cfg, offset cfg) := by rw [commands, hcp]; rfl
    exact
      { config := config.trans h.config
        legal := h.legal
        issued := ⟨_, _, atRest, allowed_offset h.legal, allowed_offset h.legal⟩
        offered := fun o ho => by
          obtain rfl := Option.some.inj (offered.symm.trans ho)
          exact restingOffer_within h.legal
        lastSent := drive ▸ h.lastSent
        datagram := drive ▸ h.datagram
        resting := fun _ => ⟨atRest, offered⟩ }
  · unfold Station.takeTrip
    rwa [if_neg permit]

theorem Station.CommandsIn.tripMaskCheck (h : st.CommandsIn cfg) (status : AmpStatus) :
    (st.tripMaskCheck cfg status).CommandsIn cfg := by
  unfold Station.tripMaskCheck
  split
  · split
    · refine CommandsIn.takeTrip ?_ _ _
      exact h.of_same ⟨rfl, id⟩
    · split
      · exact h.of_same (raise_sameCommands _ _)
      · exact h
  · exact h

theorem Station.CommandsIn.estopRises (h : st.CommandsIn cfg) : (st.estopRises cfg).CommandsIn cfg := by
  refine CommandsIn.takeTrip ?_ _ _
  exact h.of_same ⟨rfl, id⟩

theorem Station.CommandsIn.checkSilence (h : st.CommandsIn cfg) : (st.checkSilence cfg).CommandsIn cfg := by
  unfold Station.checkSilence
  split
  · exact (h.of_same (raise_sameCommands _ _)).takeTrip _ _
  · exact h

theorem Station.CommandsIn.consistencyCheck (h : st.CommandsIn cfg) : (st.consistencyCheck cfg).CommandsIn cfg := by
  have peerTrip (o : Option StationNo) : (match o with
      | none => st
      | some k => st.takeTrip cfg .peerTrip k).CommandsIn cfg := by
    cases o
    · exact h
    · exact h.takeTrip _ _
  unfold Station.consistencyCheck
  simp only
  split
  · split
    · exact CommandsIn.of_same (peerTrip _) (reportReason_sameCommands _ _ _)
    · exact peerTrip _
  · exact h

theorem Station.CommandsIn.beatWork (h : st.CommandsIn cfg) : (st.beatWork cfg).CommandsIn cfg := by
  have checked : (({ st with peers := { st.peers with beatDue := false } } : Station).consistencyCheck cfg).CommandsIn cfg := by
    refine CommandsIn.consistencyCheck ?_
    exact h.of_same ⟨rfl, id⟩
  have worked := checked.of_same ((groupCheck_sameCommands _ cfg).trans (trimPart_sameCommands _ cfg))
  exact worked.of_same ⟨rfl, id⟩

theorem Station.CommandsIn.takeDueBeat (h : st.CommandsIn cfg) : (st.takeDueBeat cfg).CommandsIn cfg := by
  unfold Station.takeDueBeat
  split
  · exact h.beatWork
  · exact h

/-! ### The Replay Engine's steps 2 to 7 (R53 to R59) -/

/-- Registers and an offer in the envelope, at the offset in TRIPPED, keep the commands in it. -/
theorem Station.CommandsIn.setEngine (h : st.CommandsIn cfg) {r : EngineRegs} {o : Offer}
    (command : allowed cfg r.command = true) (commandPrev : allowed cfg r.commandPrev = true) (offer : o.Within cfg)
    (resting : st.ctl.mode = .tripped → r.command = offset cfg ∧ r.commandPrev = offset cfg ∧ o = restingOffer cfg) :
    (st.setEngine r o).CommandsIn cfg :=
  { config := h.config
    legal := h.legal
    issued := ⟨_, _, rfl, command, commandPrev⟩
    offered := fun _ ho => Option.some.inj ho ▸ offer
    lastSent := h.lastSent
    datagram := h.datagram
    resting := fun ht => by
      obtain ⟨hc, hp, ho⟩ := resting ht
      simp [commands, hc, hp, ho] }

/-- A value that may be commanded, limited in rate from c_prev, becomes the command and is offered (R55, R57). -/
theorem Station.CommandsIn.issueLimited (h : st.CommandsIn cfg) (running : st.ctl.mode ≠ .tripped) {c1 : Int} {r : EngineRegs}
    (hc1 : allowed cfg c1 = true) (hp : allowed cfg r.commandPrev = true) (fade level : Nat) :
    let c := limitRate c1 r.commandPrev cfg.rateLimit.toNat
    (st.setEngine { r with fade := fade, level := level, command := c, commandPrev := c }
      { command := c, previous := r.commandPrev }).CommandsIn cfg := by
  have hc := allowed_limitRate hc1 hp cfg.rateLimit.toNat
  exact h.setEngine hc hc ⟨hc, hp, natAbs_limitRate_sub_le _ _ _⟩ fun ht => absurd ht running

/-- What step 6 limits in a state other than TRIPPED may be commanded: step 5 clamps it in the computing states, and it is the
offset in the others (R53, R58). -/
theorem allowed_stepFive (legal : legalRecord cfg = true) (computing : Bool) (x : Int) :
    let wanted := if computing then x else offset cfg
    allowed cfg (if computing then clampInt (cMin cfg) (cMax cfg) wanted else wanted) = true := by
  cases computing with
  | true => exact allowed_clampInt legal x
  | false => exact allowed_offset legal

/-- Steps 2 to 7 in the state m that the update began in. A station TRIPPED by now was so when the update began. -/
theorem Station.CommandsIn.computeCommand (h : st.CommandsIn cfg) {m : Mode} {r : EngineRegs}
    (regs : st.engine.regs = some r) (began : st.ctl.mode = .tripped → m = .tripped) :
    (st.computeCommand cfg m r).CommandsIn cfg := by
  have atOffset := allowed_offset h.legal
  obtain ⟨c, p, hcp, -, hp⟩ := h.issued
  obtain ⟨-, rfl⟩ : r.command = c ∧ r.commandPrev = p := by simpa [commands, regs] using hcp
  unfold Station.computeCommand
  simp only
  split
  · exact h.setEngine atOffset atOffset (restingOffer_within h.legal) fun _ => ⟨rfl, rfl, rfl⟩
  · next running =>
    have noted (clamped limited : Bool) : ((st.noteClamp clamped).noteRate limited).SameCommands st :=
      (noteRate_sameCommands _ limited).trans (noteClamp_sameCommands st clamped)
    have issued (clamped limited : Bool) (x : Int) := (h.of_same (noted clamped limited)).issueLimited
      (fun ht => running (began ((noted _ _).tripped ht))) (allowed_stepFive h.legal m.isComputing x) hp
    split
    · exact issued _ _ _ _ _
    · exact (issued _ _ _ _ _).of_same ⟨rfl, id⟩

theorem Station.CommandsIn.replayUpdate (h : st.CommandsIn cfg) : (st.replayUpdate cfg).CommandsIn cfg := by
  have advanced : (if st.ctl.mode.isMoving then st.advance cfg else st).SameCommands st := by
    split
    · exact advance_sameCommands st cfg
    · exact .refl st
  unfold Station.replayUpdate
  simp only
  generalize (if st.ctl.mode.isMoving then st.advance cfg else st) = x at advanced ⊢
  cases regs : x.engine.regs with
  | none => exact h.of_same advanced
  | some r => exact (h.of_same advanced).computeCommand regs advanced.tripped

/-! ### The Drive Line Interface (R140 to R152) -/

theorem Station.CommandsIn.supervise (h : st.CommandsIn cfg) (force displacement : Int) (status : AmpStatus) (answered : Int) :
    (st.supervise cfg force displacement status answered).CommandsIn cfg :=
  (h.tripMaskCheck status).of_same ((trackCheck_sameCommands _ cfg _ _ _).trans
    ((windowCheck_sameCommands _ cfg _ _).trans (holdMaskCheck_sameCommands _ cfg status)))

theorem Station.CommandsIn.takeResponse (h : st.CommandsIn cfg) (kind : TransferKind) (bits : BitVec 48) :
    (st.takeResponse cfg kind bits).CommandsIn cfg := by
  unfold Station.takeResponse
  cases kind with
  | none => exact h
  | command =>
    simp only
    split
    · refine CommandsIn.supervise ?_ _ _ _ _
      exact h.of_same ⟨rfl, id⟩
    · exact h
  | side => simp only; split <;> exact h.of_same ⟨rfl, id⟩
  | auto =>
    simp only
    split
    · exact h.of_same ⟨rfl, id⟩
    · exact h

/-- Slot A sends the command it is given, or nothing (R142). -/
theorem Station.CommandsIn.slotA (h : st.CommandsIn cfg) {c : Int} (hc : allowed cfg c = true) (bits : BitVec 48) :
    (st.slotA cfg c bits).CommandsIn cfg := by
  unfold Station.slotA
  simp only
  split
  · have sent : ({ st with drive := { st.drive with
        refresh := some 0, lastSent := some c, previousKind := .command, outA := some (commandDatagram c) } } :
        Station).CommandsIn cfg :=
      { h with
        lastSent := fun _ hs => Option.some.inj hs ▸ hc
        datagram := fun _ hd => ⟨c, hc, (Option.some.inj hd).symm⟩ }
    exact (sent.takeResponse _ _).of_same ⟨rfl, id⟩
  · exact { h with datagram := fun _ hd => by cases hd }

theorem Station.CommandsIn.slotB (h : st.CommandsIn cfg) (bits : BitVec 48) : (st.slotB cfg bits).CommandsIn cfg := by
  unfold Station.slotB
  simp only
  split
  · refine CommandsIn.takeResponse ?_ _ _
    exact h.of_same ⟨rfl, id⟩
  · refine CommandsIn.takeResponse ?_ _ _
    exact h.of_same ⟨rfl, id⟩
  · exact h.of_same ⟨rfl, id⟩

theorem Station.CommandsIn.driveUpdate (h : st.CommandsIn cfg) (inA inB : BitVec 48) :
    (st.driveUpdate cfg inA inB).CommandsIn cfg := by
  unfold Station.driveUpdate
  cases offered : st.engine.offered with
  | none => exact h
  | some o =>
    have opened : ((st.countSilence).evaluateBand cfg o).CommandsIn cfg :=
      h.of_same ((evaluateBand_sameCommands _ cfg o).trans ⟨rfl, id⟩)
    obtain ⟨command, -, -⟩ := h.offered o offered
    exact ((opened.slotA command inA).slotB inB).checkSilence

theorem Station.CommandsIn.configuredUpdate (h : st.CommandsIn cfg) (inA inB : BitVec 48) :
    (st.configuredUpdate cfg inA inB).CommandsIn cfg := by
  have ticked := ((h.of_same (takeReported_sameCommands st cfg)).takeDueBeat).of_same
    ((countDown_sameCommands _).trans (tickPeers_sameCommands _ cfg))
  exact (ticked.replayUpdate.driveUpdate inA inB).of_same
    ((reportTick_sameCommands _).trans (partialTick_sameCommands _))

/-! ### A frame received (R93, R99, R120, R135) -/

theorem Station.CommandsIn.receiveBeat (h : st.CommandsIn cfg) (k : StationNo) (f : BeatFields) :
    (st.receiveBeat cfg k f).CommandsIn cfg := by
  have entered : ((st.enterBeat k f).testHoldFlag cfg k f).CommandsIn cfg :=
    h.of_same ((testHoldFlag_sameCommands _ cfg k f).trans (enterBeat_sameCommands st k f))
  unfold Station.receiveBeat
  split
  · exact h
  · unfold Station.testTripped
    split
    · exact entered.takeTrip _ _
    · exact entered

theorem Station.CommandsIn.receiveTrip (h : st.CommandsIn cfg) (k : StationNo) (bySelf : Bool) :
    (st.receiveTrip cfg k bySelf).CommandsIn cfg := by
  unfold Station.receiveTrip
  split
  · exact h
  · exact h.takeTrip _ _

theorem Station.CommandsIn.deliver (h : st.CommandsIn cfg) (f : RigFrame) (bySelf : Bool) :
    (st.deliver cfg f bySelf).CommandsIn cfg := by
  have tested : (if isClash cfg f bySelf then st.reportClash cfg else st).CommandsIn cfg := by
    split
    · exact h.of_same (reportClash_sameCommands st cfg)
    · exact h
  unfold Station.deliver
  simp only
  cases f.body with
  | beat b => exact tested.receiveBeat _ b
  | go fp pass whole =>
    exact tested.of_same ((recordControl_sameCommands _ cfg _ _).trans (receiveGo_sameCommands _ cfg bySelf fp pass whole))
  | hold reasons =>
    exact tested.of_same ((recordControl_sameCommands _ cfg _ _).trans (receiveHold_sameCommands _ cfg _))
  | resume fp pass whole =>
    exact tested.of_same ((recordControl_sameCommands _ cfg _ _).trans (receiveResume_sameCommands _ cfg fp pass whole))
  | trip cause => exact (tested.receiveTrip _ bySelf).of_same (recordControl_sameCommands _ cfg _ _)

theorem Station.CommandsIn.takeOwnFrame (h : st.CommandsIn cfg) : (st.takeOwnFrame cfg).CommandsIn cfg := by
  unfold Station.takeOwnFrame
  split
  · exact h
  · refine CommandsIn.deliver ?_ _ _
    exact h.of_same ⟨rfl, id⟩

theorem Station.CommandsIn.receive (h : st.CommandsIn cfg) (sender : Sender) (body : FrameBody) :
    (st.receive cfg sender body).CommandsIn cfg := by
  have cleared : st.abortOver.CommandsIn cfg := h.of_same ⟨rfl, id⟩
  have own := cleared.takeOwnFrame
  rcases receive_cases st cfg sender body with ⟨-, -, hr⟩ | ⟨-, hr⟩
  · exact hr ▸ own
  · exact hr ▸ own.deliver _ _

theorem Station.CommandsIn.idlePoint (h : st.CommandsIn cfg) : (st.idlePoint cfg).CommandsIn cfg := by
  have cleared : st.abortOver.CommandsIn cfg := h.of_same ⟨rfl, id⟩
  have own := cleared.takeOwnFrame
  unfold Station.idlePoint
  simp only
  split
  · exact own.of_same (beginAttempt_sameCommands _ _)
  · exact own

end

/-! ### The requests (9.4) -/

section
variable (st : Station) (cfg : ConfigRecord) (kind : Byte)

theorem Station.SameCommands.answer {a b : Station} (same : a.SameCommands b) (code : ResultCode) (body : List Byte) :
    (a.answer kind code body).SameCommands b :=
  .trans (b := a) ⟨rfl, id⟩ same

/-- A refusal, and a reply to a reading request, changes nothing but the port (R177). -/
theorem Station.answer_sameCommands (code : ResultCode) (body : List Byte) : (st.answer kind code body).SameCommands st :=
  ⟨rfl, id⟩

theorem Station.setSegment_sameCommands (id : Nat) (r : Segment) : (st.setSegment id r).SameCommands st := by
  unfold Station.setSegment
  split <;> exact ⟨rfl, fun h => h⟩

theorem Station.setCut_sameCommands (id : Nat) (cut : Bool) : (st.setCut id cut).SameCommands st := by
  unfold Station.setCut
  split <;> exact ⟨rfl, fun h => h⟩

theorem Station.takeSegmentOpen_sameCommands (id : BitVec 8) (length : BitVec 32) (expected : BitVec 16) :
    (st.takeSegmentOpen kind id length expected).SameCommands st := by
  unfold Station.takeSegmentOpen
  split
  · exact answer_sameCommands _ _ _ _
  split
  · exact answer_sameCommands _ _ _ _
  split
  · exact answer_sameCommands _ _ _ _
  split
  · exact answer_sameCommands _ _ _ _
  split
  · exact answer_sameCommands _ _ _ _
  simp only
  split
  · exact answer_sameCommands _ _ _ _
  · exact (setSegment_sameCommands _ _ _).answer _ _ _

theorem Station.takeSegmentData_sameCommands (id : BitVec 8) (part : BitVec 32) (samples : List Sample) :
    (st.takeSegmentData kind id part samples).SameCommands st := by
  have stored (store : Store) (r : Segment) : (({ st with store := store } : Station).setSegment id.toNat r).SameCommands st :=
    (setSegment_sameCommands _ _ _).trans ⟨rfl, fun h => h⟩
  unfold Station.takeSegmentData
  split_ifs
  · exact answer_sameCommands _ _ _ _
  · exact answer_sameCommands _ _ _ _
  · split
    · simp only
      split_ifs
      · rcases refusePart_cases st kind id.toNat part.toNat _ with ⟨-, -, -, refused⟩ | ⟨-, refused⟩
        · exact refused ▸ answer_sameCommands _ _ _ _
        · exact refused ▸ answer_sameCommands _ _ _ _
      · exact answer_sameCommands _ _ _ _
      · exact answer_sameCommands _ _ _ _
      · exact answer_sameCommands _ _ _ _
      · exact (stored _ _).answer _ _ _
      · exact ((raise_sameCommands _ _).trans (stored _ _)).answer _ _ _
      · exact ((raise_sameCommands _ _).trans (stored _ _)).answer _ _ _
    all_goals exact answer_sameCommands _ _ _ _

theorem Station.takeSegmentDiscard_sameCommands (id : BitVec 8) : (st.takeSegmentDiscard kind id).SameCommands st := by
  unfold Station.takeSegmentDiscard
  split_ifs
  · exact answer_sameCommands _ _ _ _
  · exact answer_sameCommands _ _ _ _
  · exact answer_sameCommands _ _ _ _
  · exact answer_sameCommands _ _ _ _
  · exact ((setSegment_sameCommands _ _ _).trans (setCut_sameCommands _ _ _)).answer _ _ _

theorem Station.takeSegmentInfo_sameCommands (id : BitVec 8) : (st.takeSegmentInfo kind id).SameCommands st := by
  unfold Station.takeSegmentInfo
  split <;> exact answer_sameCommands _ _ _ _

theorem Station.takePlaylistAppend_sameCommands (id : BitVec 8) (repeats : BitVec 16) (wait : BitVec 8) :
    (st.takePlaylistAppend kind id repeats wait).SameCommands st := by
  unfold Station.takePlaylistAppend
  simp only
  split_ifs <;> exact ⟨rfl, fun h => h⟩

theorem Station.takePlaylistClear_sameCommands : (st.takePlaylistClear kind).SameCommands st := by
  unfold Station.takePlaylistClear
  split <;> exact ⟨rfl, id⟩

theorem Station.takePlaylistRead_sameCommands (index : BitVec 8) : (st.takePlaylistRead kind index).SameCommands st := by
  unfold Station.takePlaylistRead
  simp only
  split <;> exact answer_sameCommands _ _ _ _

theorem Station.takeSchedulePasses_sameCommands (passes : BitVec 16) : (st.takeSchedulePasses kind passes).SameCommands st := by
  unfold Station.takeSchedulePasses
  split <;> exact ⟨rfl, id⟩

theorem Station.takeArm_sameCommands : (st.takeArm cfg kind).SameCommands st := by
  unfold Station.takeArm
  split
  · exact answer_sameCommands _ _ _ _
  · split
    · exact answer_sameCommands _ _ _ _
    · exact (armNow_sameCommands _ _).answer _ _ _

theorem Station.takeDisarm_sameCommands : (st.takeDisarm cfg kind).SameCommands st := by
  unfold Station.takeDisarm
  cases st.ctl.mode with
  | armed | held | complete => exact (enterIdle_sameCommands _ _).answer _ _ _
  | unconfigured | idle | countdown | rampIn | playing | rampOutMoving | rampOutParked | ending | tripped =>
    exact answer_sameCommands _ _ _ _

theorem Station.takeStart_sameCommands (position : Option (BitVec 32 × BitVec 48)) :
    (st.takeStart cfg kind position).SameCommands st := by
  unfold Station.takeStart
  simp only
  split_ifs
  · exact answer_sameCommands _ _ _ _
  · exact answer_sameCommands _ _ _ _
  · split <;> exact ⟨rfl, id⟩

theorem Station.takeHold_sameCommands : (st.takeHold cfg kind).SameCommands st := by
  unfold Station.takeHold
  cases st.ctl.mode with
  | countdown | rampIn | playing | held => exact (reportReason_sameCommands _ _ _).answer _ _ _
  | unconfigured | idle | armed | rampOutMoving | rampOutParked | ending | complete | tripped =>
    exact answer_sameCommands _ _ _ _

theorem Station.takeResume_sameCommands : (st.takeResume cfg kind).SameCommands st := by
  unfold Station.takeResume
  simp only
  split_ifs
  · exact answer_sameCommands _ _ _ _
  · exact answer_sameCommands _ _ _ _
  · split <;> exact ⟨rfl, id⟩

theorem Station.takeAcknowledge_sameCommands (reasons : BitVec 16) : (st.takeAcknowledge kind reasons).SameCommands st := by
  unfold Station.takeAcknowledge
  split <;> exact ⟨rfl, id⟩

theorem Station.takeClearTrip_sameCommands : (st.takeClearTrip cfg kind).SameCommands st := by
  unfold Station.takeClearTrip
  split_ifs
  · exact answer_sameCommands _ _ _ _
  · exact answer_sameCommands _ _ _ _
  · exact (enterIdle_sameCommands _ _).answer _ _ _

/-- SET-LEVEL writes the target register alone (R46). -/
theorem Station.takeSetLevel_sameCommands (target : BitVec 16) : (st.takeSetLevel kind target).SameCommands st := by
  unfold Station.takeSetLevel
  split
  · exact answer_sameCommands _ _ _ _
  · next r regs =>
    split
    · exact answer_sameCommands _ _ _ _
    · exact ⟨by simp [envelope, commands, regs], id⟩

theorem Station.takeSideSend_sameCommands (word : BitVec 32) : (st.takeSideSend kind word).SameCommands st := by
  unfold Station.takeSideSend
  split_ifs <;> exact ⟨rfl, id⟩

theorem Station.takePeerRead_sameCommands (number : BitVec 8) : (st.takePeerRead kind number).SameCommands st := by
  unfold Station.takePeerRead
  split
  · next inTable =>
    have entry : (match st.peer ⟨number.toNat, inTable⟩ with
        | none => st.answer kind .ok [0]
        | some e => st.answer kind .ok (1 :: e.body)).SameCommands st := by
      split <;> exact answer_sameCommands _ _ _ _
    simp only
    split
    · exact entry
    · split
      · exact answer_sameCommands _ _ _ _
      · exact entry
  · exact answer_sameCommands _ _ _ _

theorem Station.takeEventsClear_sameCommands (events : BitVec 16) : (st.takeEventsClear kind events).SameCommands st := by
  unfold Station.takeEventsClear
  split <;> exact ⟨rfl, id⟩

theorem Station.takeReportRate_sameCommands (n : BitVec 8) : (st.takeReportRate kind n).SameCommands st := by
  unfold Station.takeReportRate
  split <;> exact ⟨rfl, id⟩

end

/-! ### Configuring and resetting (R37, R189, R193, R194) -/

section
variable {st : Station} {cfg : ConfigRecord}

theorem legalRecord_of_firstBadField (h : firstBadField cfg = none) : legalRecord cfg = true := by
  simpa [firstBadField, legalRecord] using h

/-- The values of CONFIGURE: the engine at the hold offset, with nothing offered and nothing sent (R37, R139). -/
theorem Station.CommandsIn.of_configured (legal : legalRecord cfg = true) (config : st.config = some cfg)
    (regs : st.engine.regs = some (configuredRegs cfg)) (offered : st.engine.offered = none)
    (drive : st.drive = configuredDrive cfg) (mode : st.ctl.mode ≠ .tripped) : st.CommandsIn cfg :=
  { config := config
    legal := legal
    issued := ⟨_, _, by rw [commands, regs]; rfl, allowed_offset legal, allowed_offset legal⟩
    offered := by simp [offered]
    lastSent := by simp [drive, configuredDrive, DriveLine.reset]
    datagram := by simp [drive, configuredDrive, DriveLine.reset]
    resting := fun ht => absurd ht mode }

theorem Station.configureNow_commandsIn (st : Station) (legal : legalRecord cfg = true) (mode : st.ctl.mode = .unconfigured) :
    (st.configureNow cfg).CommandsIn cfg := by
  have started {x : Station} (h : x.CommandsIn cfg) : (x.enterMode cfg .idle).CommandsIn cfg :=
    h.of_same (enterMode_sameCommands x cfg (by decide))
  have running : st.ctl.mode ≠ .tripped := by simp [mode]
  unfold Station.configureNow
  simp only
  split
  · refine (started ?_).estopRises
    exact .of_configured legal rfl rfl rfl rfl running
  · refine started ?_
    exact .of_configured legal rfl rfl rfl rfl running

theorem Station.EnvelopeOk.takeConfigure (h : st.EnvelopeOk) (kind : Byte) (record : ConfigRecord) :
    (st.takeConfigure kind record).EnvelopeOk := by
  unfold Station.takeConfigure
  split
  · exact h.of_same (answer_sameCommands _ _ _ _)
  · split
    · exact h.of_same (answer_sameCommands _ _ _ _)
    · next legal =>
      have configured := st.configureNow_commandsIn (legalRecord_of_firstBadField legal) (not_not.mp ‹_›)
      exact configured.envelopeOk.of_same (answer_sameCommands _ _ _ _)

/-- A reset station has neither a configuration nor registers (R37, R193). -/
theorem Station.hardReset_envelopeOk (st : Station) : st.hardReset.EnvelopeOk := envelopeOk_iff.mpr (.inl ⟨rfl, rfl⟩)

theorem Station.softReset_envelopeOk (st : Station) : st.softReset.EnvelopeOk := envelopeOk_iff.mpr (.inl ⟨rfl, rfl⟩)

/-! ### The requests and the host port, with a configuration and without (R137, R175, R176) -/

theorem Station.CommandsIn.takeAbort (h : st.CommandsIn cfg) (kind : Byte) : (st.takeAbort cfg kind).CommandsIn cfg := by
  unfold Station.takeAbort
  split
  · exact (h.takeTrip _ _).of_same (answer_sameCommands _ _ _ _)
  · exact h.of_same (answer_sameCommands _ _ _ _)

/-- A station with a configuration has its commands in the envelope of that configuration. -/
theorem Station.EnvelopeOk.commandsIn (h : st.EnvelopeOk) (config : st.config = some cfg) : st.CommandsIn cfg := by
  rcases envelopeOk_iff.mp h with ⟨none, -⟩ | ⟨cfg', h'⟩
  · rw [config] at none; cases none
  · obtain rfl : cfg' = cfg := Option.some.inj (h'.config.symm.trans config)
    exact h'

theorem Station.EnvelopeOk.runRequest (h : st.EnvelopeOk) (kind : Byte) {f : ConfigRecord → Station}
    (keeps : ∀ cfg, st.CommandsIn cfg → (f cfg).CommandsIn cfg) : (st.runRequest kind f).EnvelopeOk := by
  unfold Station.runRequest
  split
  · exact h.of_same (answer_sameCommands _ _ _ _)
  · next config => exact (keeps _ (h.commandsIn config)).envelopeOk

theorem Station.EnvelopeOk.whenConfigured (h : st.EnvelopeOk) {f : ConfigRecord → Station → Station}
    (keeps : ∀ cfg, st.CommandsIn cfg → (f cfg st).CommandsIn cfg) : (st.whenConfigured f).EnvelopeOk := by
  unfold Station.whenConfigured
  split
  · next config => exact (keeps _ (h.commandsIn config)).envelopeOk
  · exact h

theorem Station.EnvelopeOk.takeRequest (h : st.EnvelopeOk) (r : Request) : (st.takeRequest r).EnvelopeOk := by
  cases r with
  | identify | status | eventsRead | stationReset => exact h.of_same (answer_sameCommands _ _ _ _)
  | configure record => exact h.takeConfigure _ record
  | segmentOpen id length expected => exact h.of_same (takeSegmentOpen_sameCommands _ _ id length expected)
  | segmentData id part samples => exact h.of_same (takeSegmentData_sameCommands _ _ id part samples)
  | segmentDiscard id => exact h.of_same (takeSegmentDiscard_sameCommands _ _ id)
  | segmentInfo id => exact h.of_same (takeSegmentInfo_sameCommands _ _ id)
  | playlistAppend id repeats wait => exact h.of_same (takePlaylistAppend_sameCommands _ _ id repeats wait)
  | playlistClear => exact h.of_same (takePlaylistClear_sameCommands _ _)
  | playlistRead index => exact h.of_same (takePlaylistRead_sameCommands _ _ index)
  | schedulePasses passes => exact h.of_same (takeSchedulePasses_sameCommands _ _ passes)
  | arm => exact h.runRequest _ fun cfg hin => hin.of_same (takeArm_sameCommands _ cfg _)
  | disarm => exact h.runRequest _ fun cfg hin => hin.of_same (takeDisarm_sameCommands _ cfg _)
  | start position => exact h.runRequest _ fun cfg hin => hin.of_same (takeStart_sameCommands _ cfg _ position)
  | hold => exact h.runRequest _ fun cfg hin => hin.of_same (takeHold_sameCommands _ cfg _)
  | resume => exact h.runRequest _ fun cfg hin => hin.of_same (takeResume_sameCommands _ cfg _)
  | acknowledge reasons => exact h.of_same (takeAcknowledge_sameCommands _ _ reasons)
  | abort => exact h.runRequest _ fun _ hin => hin.takeAbort _
  | clearTrip => exact h.runRequest _ fun cfg hin => hin.of_same (takeClearTrip_sameCommands _ cfg _)
  | setLevel target => exact h.of_same (takeSetLevel_sameCommands _ _ target)
  | sideSend word => exact h.of_same (takeSideSend_sameCommands _ _ word)
  | sideRead => exact h.of_same ⟨rfl, id⟩
  | peerRead number => exact h.of_same (takePeerRead_sameCommands _ _ number)
  | eventsClear events => exact h.of_same (takeEventsClear_sameCommands _ _ events)
  | reportRate n => exact h.of_same (takeReportRate_sameCommands _ _ n)

theorem Station.EnvelopeOk.serveWaiting (h : st.EnvelopeOk) : st.serveWaiting.EnvelopeOk := by
  unfold Station.serveWaiting
  split
  · exact h
  · split
    · exact h
    · unfold Station.serve
      split
      · exact h.of_same ⟨rfl, id⟩
      · refine EnvelopeOk.takeRequest ?_ _
        exact h.of_same ⟨rfl, id⟩

theorem Station.EnvelopeOk.settlePort (h : st.EnvelopeOk) : st.settlePort.EnvelopeOk :=
  (h.of_same (transmitterTake_sameCommands st)).serveWaiting.serveWaiting

theorem Station.EnvelopeOk.frameCompletes (h : st.EnvelopeOk) (f : HostFrame) : (st.frameCompletes f).EnvelopeOk :=
  (h.of_same (joinBuffers_sameCommands st f)).settlePort

theorem Station.EnvelopeOk.hostRequest (h : st.EnvelopeOk) (r : Request) : (st.hostRequest r).EnvelopeOk := by
  unfold Station.hostRequest
  split
  · split
    · exact h.takeRequest r
    · exact h.frameCompletes _
  · exact h

theorem Station.EnvelopeOk.takeHostByte (h : st.EnvelopeOk) (b : Byte) : (st.takeHostByte b).EnvelopeOk := by
  unfold Station.takeHostByte
  split
  · split <;> exact h.of_same ⟨rfl, id⟩
  · split
    · exact h.of_same ⟨rfl, id⟩
    · refine EnvelopeOk.frameCompletes ?_ _
      exact h.of_same ⟨rfl, id⟩

theorem Station.EnvelopeOk.frameSent (h : st.EnvelopeOk) : st.frameSent.EnvelopeOk := by
  unfold Station.frameSent
  split
  · exact h
  · split
    · exact softReset_envelopeOk st
    · refine EnvelopeOk.settlePort ?_
      exact h.of_same ⟨rfl, id⟩

theorem Station.EnvelopeOk.update (h : st.EnvelopeOk) (inA inB : BitVec 48) : (st.update inA inB).EnvelopeOk := by
  unfold Station.update
  split
  · split
    · exact h.of_same (partialTick_sameCommands st)
    · next config => exact ((h.commandsIn config).configuredUpdate inA inB).envelopeOk
  · exact h

/-- An outcome of an attempt, where one is under way, keeps what the outcome keeps (R130). -/
theorem Station.CommandsIn.withAttempt (h : st.CommandsIn cfg) {f : Attempt → Station} (keeps : ∀ a, (f a).CommandsIn cfg) :
    (st.withAttempt f).CommandsIn cfg := by
  unfold Station.withAttempt
  split
  · exact h
  · exact keeps _

theorem Station.EnvelopeOk.ite {a b : Station} {p : Prop} [Decidable p] (ha : a.EnvelopeOk) (hb : b.EnvelopeOk) :
    (if p then a else b).EnvelopeOk := by
  split <;> assumption

theorem Station.CommandsIn.ite {a b : Station} {p : Prop} [Decidable p] (ha : a.CommandsIn cfg) (hb : b.CommandsIn cfg) :
    (if p then a else b).CommandsIn cfg := by
  split <;> assumption

end

/-! ### Every command, and the step -/

/-- Every command completes, with the commands in the envelope. -/
theorem exec_keeps_envelopeOk {s : State} (h : s.station.EnvelopeOk) (c : Instr) :
    ∃ st : Station, exec c s = .next (s.withStation st) ∧ st.EnvelopeOk := by
  cases c with
  | identify | configure | segmentOpen | segmentData | segmentDiscard | segmentInfo | playlistAppend | playlistClear
  | playlistRead | schedulePasses | arm | disarm | start | holdRequest | resumeRequest | acknowledge | abort | clearTrip
  | setLevel | sideSend | sideRead | status | peerRead | eventsRead | eventsClear | reportRate | stationReset =>
    exact ⟨_, rfl, h.hostRequest _⟩
  | stationResetEffect => exact ⟨_, rfl, .ite (Station.softReset_envelopeOk _) h⟩
  | hostFrameRefused frame => exact ⟨_, rfl, .ite (h.frameCompletes frame) h⟩
  | hostByte b => exact ⟨_, rfl, .ite (h.takeHostByte b) h⟩
  | partialFrameTimeout => exact ⟨_, rfl, .ite (h.of_same ⟨rfl, id⟩) h⟩
  | transmitterFrameSent => exact ⟨_, rfl, .ite h.frameSent h⟩
  | reportDue =>
    exact ⟨_, rfl, h.whenConfigured fun _ hin =>
      .ite (hin.of_same ((Station.reportFalls_sameCommands _).trans ⟨rfl, id⟩)) hin⟩
  | update inA inB => exact ⟨_, rfl, h.update inA inB⟩
  | trackCountReached =>
    exact ⟨_, rfl, h.whenConfigured fun cfg hin => .ite (hin.of_same (Station.trackReached_sameCommands _ cfg)) hin⟩
  | driveSilence => exact ⟨_, rfl, h.whenConfigured fun _ hin => hin.checkSilence⟩
  | countdownExpiry =>
    exact ⟨_, rfl, h.whenConfigured fun cfg hin => hin.of_same (Station.expireCountdown_sameCommands _ cfg)⟩
  | endOfRampIn => exact ⟨_, rfl, h.whenConfigured fun cfg hin => hin.of_same (Station.endRampIn_sameCommands _ cfg)⟩
  | endOfRampOut => exact ⟨_, rfl, h.whenConfigured fun cfg hin => hin.of_same (Station.endRampOut_sameCommands _ cfg)⟩
  | peerStale number =>
    exact ⟨_, rfl, h.whenConfigured fun cfg hin => .ite (hin.of_same (Station.tickAhead_sameCommands _ cfg)) hin⟩
  | beatInstant =>
    exact ⟨_, rfl, h.whenConfigured fun cfg hin =>
      .ite hin.beatWork (.ite (hin.of_same (Station.tickAhead_sameCommands _ cfg)).beatWork hin)⟩
  | idlePoint => exact ⟨_, rfl, h.whenConfigured fun _ hin => hin.idlePoint⟩
  | arbitrationLost => exact ⟨_, rfl, h.whenConfigured fun _ hin => hin.withAttempt fun _ => hin.of_same ⟨rfl, id⟩⟩
  | attemptAborted =>
    exact ⟨_, rfl, h.whenConfigured fun cfg hin => hin.withAttempt fun _ =>
      hin.of_same (Station.abortAttempt_sameCommands _ cfg)⟩
  | consecutiveAbortLimit =>
    exact ⟨_, rfl, h.whenConfigured fun cfg hin => hin.withAttempt fun _ =>
      .ite (hin.of_same ((Station.abortLimit_sameCommands _ cfg).trans ⟨rfl, id⟩)) hin⟩
  | attemptCompleted =>
    exact ⟨_, rfl, h.whenConfigured fun _ hin => hin.withAttempt fun a =>
      hin.of_same (Station.completeAttempt_sameCommands _ a)⟩
  | frameDropped frame =>
    refine ⟨_, rfl, h.whenConfigured fun cfg hin => ?_⟩
    split
    · exact hin.of_same (Station.badFrameEnds_sameCommands _ _)
    · exact hin.receive _ _
  | beatFrame | goFrame | holdFrame | resumeFrame | tripFrame =>
    exact ⟨_, rfl, h.whenConfigured fun _ hin => hin.receive _ _⟩
  | estopActive =>
    refine ⟨_, rfl, Station.EnvelopeOk.whenConfigured ?_ fun _ hin => .ite hin hin.estopRises⟩
    exact h.of_same ⟨rfl, id⟩
  | estopInactive =>
    refine ⟨_, rfl, Station.EnvelopeOk.whenConfigured ?_ fun _ hin => hin.of_same ⟨rfl, id⟩⟩
    exact h.of_same ⟨rfl, id⟩
  | powerOn | resetLineActive | powerOff => exact ⟨_, rfl, Station.hardReset_envelopeOk _⟩
  | resetLineInactive => exact ⟨_, rfl, .ite (Station.hardReset_envelopeOk _) h⟩

/-- Settles O57: a step is one command or none, and every command keeps the commands in the envelope. -/
theorem stepKeepsCommandInEnvelope : Obligations.StepKeepsCommandInEnvelope := by
  unfold Obligations.StepKeepsCommandInEnvelope
  intro s t regsOk recordOk commandOk answered
  have envelopeOk : s.station.EnvelopeOk := ⟨regsOk, recordOk, commandOk⟩
  show t.station.EnvelopeOk
  unfold step at answered
  split at answered
  · cases answered
    exact envelopeOk
  · next c rest waiting =>
    obtain ⟨st, executed, kept⟩ := exec_keeps_envelopeOk (s := { s with pending := rest }) envelopeOk c
    rw [executed] at answered
    cases answered
    exact kept

end Sys2Proof.Machine
end

section
/-! ABORT (R94). The taking of an ABORT has one equation in the permit states and one elsewhere; a trip taken in a permit
state leaves the station TRIPPED (R91). -/

namespace Sys2Proof.Machine

section
variable {st : Station} {cfg : ConfigRecord}

/-- A trip taken in a permit state enters TRIPPED, whatever its cause; the TRIP frame and the event come after (R91). -/
theorem Station.takeTrip_mode (permit : st.ctl.mode.isPermit = true) (cause : TripCause) (origin : StationNo) :
    (st.takeTrip cfg cause origin).ctl.mode = .tripped := by
  rw [takeTrip, if_pos permit]
  by_cases heard : cause = .peerTrip <;> simp [heard]

/-- R94 in a permit state: the trip is taken first, and the reply OK follows it. -/
theorem Station.takeAbort_permit (kind : Byte) (permit : st.ctl.mode.isPermit = true) :
    st.takeAbort cfg kind = (st.takeTrip cfg .host (own cfg)).answer kind .ok [] :=
  if_pos permit

/-- R94 in every other state. -/
theorem Station.takeAbort_noPermit (kind : Byte) (noPermit : st.ctl.mode.isPermit = false) :
    st.takeAbort cfg kind = st.answer kind .badState [] :=
  if_neg (by simp [noPermit])

/-- With a configuration in force, a controller request is what the controller makes of it (9.4). -/
theorem Station.runRequest_configured (config : st.config = some cfg) (kind : Byte) (f : ConfigRecord → Station) :
    st.runRequest kind f = f cfg := by
  rw [runRequest, config]

/-- A controller request that every configuration refuses BAD-STATE is so refused without one as well (9.4). -/
theorem Station.runRequest_refused {kind : Byte} {f : ConfigRecord → Station}
    (refuses : ∀ cfg, f cfg = st.answer kind .badState []) : st.runRequest kind f = st.answer kind .badState [] := by
  unfold runRequest
  split
  · rfl
  · exact refuses _

end

/-- Settles O25: an ABORT that is served at once is its taking under the configuration in force, and the refusal outside the
permit states is the same with a configuration and without. -/
theorem abortDecides : Obligations.AbortDecides := by
  unfold Obligations.AbortDecides
  intro s cfg hserves
  have taken : exec .abort s =
      .next (s.withStation (s.station.runRequest 0x11#8 fun cfg => s.station.takeAbort cfg 0x11#8)) :=
    exec_commandOf_serves hserves .abort
  refine ⟨fun config permit => ⟨?_, Station.takeTrip_mode permit _ _⟩, fun noPermit => ?_⟩
  · rw [taken, Station.runRequest_configured config, Station.takeAbort_permit _ permit]
  · rw [taken, Station.runRequest_refused fun _ => Station.takeAbort_noPermit _ noPermit]

end Sys2Proof.Machine
end

section
/-! ATTENTION (R184). The Event Set and the configuration are all that the invariant speaks of, so an update of any other
part of the station carries `h : st.AttentionOk` over as it stands. What is left are the raising of an event and
EVENTS-CLEAR, which compute ATTENTION anew; CONFIGURE, which brings the mask together with the configuration; and the
resets, which take both away. Every other operation is made of these. -/

namespace Sys2Proof.Machine

/-! ### Where ATTENTION is computed anew (R184, R189, R193) -/

section
variable {st : Station}

/-- A raise computes ATTENTION from the latched set and the mask, whatever it was before. -/
theorem Station.raise_attentionOk (masked : st.events.mask.isSome = st.config.isSome) (e : Event) :
    (st.raise e).AttentionOk :=
  ⟨rfl, masked⟩

/-- Entering a state raises STATE (R62). -/
theorem Station.enterMode_attentionOk (masked : st.events.mask.isSome = st.config.isSome) (cfg : ConfigRecord) (m : Mode) :
    (st.enterMode cfg m).AttentionOk := by
  rw [enterMode_eq]
  exact raise_attentionOk masked .state

/-- A reset station has no configuration, no mask and no event, and ATTENTION inactive (R193). -/
theorem Station.hardReset_attentionOk (st : Station) : st.hardReset.AttentionOk := ⟨rfl, rfl⟩

theorem Station.softReset_attentionOk (st : Station) : st.softReset.AttentionOk := ⟨rfl, rfl⟩

end

section
variable {st : Station} {cfg : ConfigRecord} (h : st.AttentionOk)
include h

theorem Station.AttentionOk.raise (e : Event) : (st.raise e).AttentionOk := raise_attentionOk h.right e

/-! ### The Station Controller: states, holds and trips (R62, R65, R74, R91) -/

theorem Station.AttentionOk.enterMode (m : Mode) : (st.enterMode cfg m).AttentionOk := enterMode_attentionOk h.right cfg m

theorem Station.AttentionOk.startHold (r : HoldReason) (origin : StationNo) : (st.startHold r origin).AttentionOk := by
  have raised := h.raise .hold
  unfold Station.startHold
  simp only
  split <;> exact raised

theorem Station.AttentionOk.takeReason (r : HoldReason) (origin : StationNo) : (st.takeReason cfg r origin).AttentionOk := by
  have inserted : (st.insertReason r).AttentionOk := h
  unfold Station.takeReason
  cases st.ctl.mode with
  | rampIn | playing | countdown => exact (inserted.enterMode _).startHold r origin
  | rampOutMoving | rampOutParked | held | ending | complete => exact inserted
  | unconfigured | idle | armed | tripped => exact h

theorem Station.AttentionOk.reportReason (r : HoldReason) : (st.reportReason cfg r).AttentionOk := h.takeReason r _

theorem Station.AttentionOk.takeTrip (cause : TripCause) (origin : StationNo) : (st.takeTrip cfg cause origin).AttentionOk := by
  unfold Station.takeTrip
  split
  · refine AttentionOk.raise ?_ .trip
    have entered {x : Station} (hx : x.AttentionOk) : (x.enterMode cfg .tripped).AttentionOk := hx.enterMode _
    split <;> exact entered h
  · exact h

theorem Station.AttentionOk.enterIdle : (st.enterIdle cfg).AttentionOk := by
  refine AttentionOk.enterMode ?_ _
  unfold Station.dropGoAndResume
  split <;> exact h

theorem Station.AttentionOk.armNow : (st.armNow cfg).AttentionOk := by
  refine AttentionOk.enterMode ?_ _
  exact h

theorem Station.AttentionOk.beginCountdown (pass whole : Nat) : (st.beginCountdown cfg pass whole).AttentionOk := by
  refine AttentionOk.enterMode ?_ _
  exact h

/-! ### The Replay Engine (R39 to R59, R78) -/

theorem Station.AttentionOk.expireCountdown : (st.expireCountdown cfg).AttentionOk := by
  unfold Station.expireCountdown
  split
  · exact h.enterMode _
  · exact h

theorem Station.AttentionOk.endRampIn : (st.endRampIn cfg).AttentionOk := by
  unfold Station.endRampIn
  split
  · exact h.enterMode _
  · exact h

theorem Station.AttentionOk.endRampOut : (st.endRampOut cfg).AttentionOk := by
  unfold Station.endRampOut
  split
  · cases st.ctl.mode with
    | rampOutMoving | rampOutParked | ending => exact h.enterMode _
    | unconfigured | idle | armed | countdown | rampIn | playing | held | complete | tripped => exact h
  · exact h

theorem Station.AttentionOk.takeReported : (st.takeReported cfg).AttentionOk := h.expireCountdown.endRampIn.endRampOut

theorem Station.AttentionOk.countDown : st.countDown.AttentionOk := by
  unfold Station.countDown
  split <;> exact h

theorem Station.AttentionOk.takeStepReport (r : StepReport) : (st.takeStepReport cfg r).AttentionOk := by
  cases r with
  | nothing => exact h
  | passEnd => exact h.raise .pass
  | waitPark =>
    have inserted : (st.insertReason .wait).AttentionOk := h
    show (st.takeWaitPark cfg).AttentionOk
    unfold Station.takeWaitPark
    split
    · exact inserted.enterMode _
    all_goals exact h.reportReason .wait
  | endPark =>
    show (st.takeEndPark cfg).AttentionOk
    unfold Station.takeEndPark
    split
    · exact h.enterMode _
    · exact h

omit h in
theorem Station.AttentionOk.advanceBy (n : Nat) :
    ∀ {x : Station} (_ : x.AttentionOk) (p : Position), (x.advanceBy cfg p n).AttentionOk := by
  induction n with
  | zero => exact fun hx _ => hx
  | succ n ih =>
    intro x hx p
    have placed : (x.setPosition (x.singleStep p).1).AttentionOk := hx
    exact ih (placed.takeStepReport _) _

theorem Station.AttentionOk.advance : (st.advance cfg).AttentionOk := by
  unfold Station.advance
  split
  · simp only
    split
    · exact advanceBy _ h _
    · exact h
  · exact h

/-- Steps 2 to 7 raise CLAMP and RATE where they clamp and limit (R53, R55), and touch no other event. -/
theorem Station.AttentionOk.computeCommand (m : Mode) (r : EngineRegs) : (st.computeCommand cfg m r).AttentionOk := by
  have noted (clamped limited : Bool) : ((st.noteClamp clamped).noteRate limited).AttentionOk := by
    cases clamped <;> cases limited
    · exact h
    · exact h.raise .rate
    · exact h.raise .clamp
    · exact (h.raise .clamp).raise .rate
  unfold Station.computeCommand
  simp only
  split
  · exact h
  · split <;> exact noted _ _

theorem Station.AttentionOk.replayUpdate : (st.replayUpdate cfg).AttentionOk := by
  have advanced : (if st.ctl.mode.isMoving then st.advance cfg else st).AttentionOk := by
    split
    · exact h.advance
    · exact h
  unfold Station.replayUpdate
  simp only
  split
  · exact advanced
  · exact advanced.computeCommand _ _

/-! ### The Peer Table and the beat instant (R99 to R120) -/

theorem Station.AttentionOk.peerTick : (st.peerTick cfg).AttentionOk := by
  unfold Station.peerTick
  simp only
  split
  · exact h.raise .peerLost
  · exact h

theorem Station.AttentionOk.tickPeers : (st.tickPeers cfg).AttentionOk := by
  unfold Station.tickPeers
  split
  · exact h
  · exact h.peerTick

theorem Station.AttentionOk.tickAhead : (st.tickAhead cfg).AttentionOk := h.peerTick (cfg := cfg)

theorem Station.AttentionOk.consistencyCheck : (st.consistencyCheck cfg).AttentionOk := by
  have peerTrip (o : Option StationNo) : (match o with
      | none => st
      | some k => st.takeTrip cfg .peerTrip k).AttentionOk := by
    cases o
    · exact h
    · exact h.takeTrip _ _
  unfold Station.consistencyCheck
  simp only
  split
  · split
    · exact (peerTrip _).reportReason .lost
    · exact peerTrip _
  · exact h

theorem Station.AttentionOk.makeTrim (p : Position) (passLength : Nat) : (st.makeTrim cfg p passLength).AttentionOk := by
  unfold Station.makeTrim
  simp only
  split
  · refine AttentionOk.reportReason ?_ .slip
    exact h
  · exact h

theorem Station.AttentionOk.trimPart : (st.trimPart cfg).AttentionOk := by
  unfold Station.trimPart
  split
  · split
    · exact h.makeTrim _ _
    · exact h
  · exact h

theorem Station.AttentionOk.groupCheck : (st.groupCheck cfg).AttentionOk := by
  unfold Station.groupCheck
  split
  · simp only
    split
    · refine AttentionOk.reportReason ?_ .group
      exact h
    · exact h
  · exact h

theorem Station.AttentionOk.beatWork : (st.beatWork cfg).AttentionOk := by
  have cleared : ({ st with peers := { st.peers with beatDue := false } } : Station).AttentionOk := h
  exact cleared.consistencyCheck.trimPart.groupCheck (cfg := cfg)

theorem Station.AttentionOk.takeDueBeat : (st.takeDueBeat cfg).AttentionOk := by
  unfold Station.takeDueBeat
  split
  · exact h.beatWork
  · exact h

theorem Station.AttentionOk.enterBeat (k : StationNo) (f : BeatFields) : (st.enterBeat k f).AttentionOk := by
  unfold Station.enterBeat
  simp only
  split
  · exact h.raise .peerJoined
  · exact h

theorem Station.AttentionOk.testHoldFlag (k : StationNo) (f : BeatFields) : (st.testHoldFlag cfg k f).AttentionOk := by
  unfold Station.testHoldFlag
  split
  · exact h.takeReason _ _
  · exact h

theorem Station.AttentionOk.testTripped (k : StationNo) (f : BeatFields) : (st.testTripped cfg k f).AttentionOk := by
  unfold Station.testTripped
  split
  · exact h.takeTrip _ _
  · exact h

theorem Station.AttentionOk.recordControl (k : StationNo) (seen : ControlSeen) : (st.recordControl cfg k seen).AttentionOk := by
  obtain ⟨p, recorded⟩ := recordControl_cases st cfg k seen
  exact recorded ▸ h

theorem Station.AttentionOk.reportClash : (st.reportClash cfg).AttentionOk := by
  have raised : (({ st with ctl := { st.ctl with clash := true } } : Station).raise .clash).AttentionOk := h.raise .clash
  unfold Station.reportClash
  simp only
  split
  · exact raised.reportReason .link
  · exact raised

/-! ### The Supervision Unit and the drive line (R140 to R166) -/

theorem Station.AttentionOk.tripMaskCheck (status : AmpStatus) : (st.tripMaskCheck cfg status).AttentionOk := by
  unfold Station.tripMaskCheck
  split_ifs
  · refine AttentionOk.takeTrip ?_ _ _
    exact h
  · exact h.raise .trip
  · exact h
  · exact h

theorem Station.AttentionOk.holdMaskCheck (status : AmpStatus) : (st.holdMaskCheck cfg status).AttentionOk := by
  unfold Station.holdMaskCheck
  split
  · exact h.reportReason .amp
  · exact h

theorem Station.AttentionOk.windowCheck (force displacement : Int) : (st.windowCheck cfg force displacement).AttentionOk := by
  unfold Station.windowCheck
  simp only
  split_ifs
  · refine AttentionOk.reportReason ?_ .window
    exact h
  · exact h
  · exact h

theorem Station.AttentionOk.trackReached : (st.trackReached cfg).AttentionOk := by
  refine AttentionOk.reportReason ?_ .track
  exact h

theorem Station.AttentionOk.trackCheck (answered force displacement : Int) :
    (st.trackCheck cfg answered force displacement).AttentionOk := by
  have kept (error : Int) : ({ st with sup := { st.sup with lastError := some error } } : Station).AttentionOk := h
  unfold Station.trackCheck
  simp only
  generalize answered - (if roleIsDisplacement cfg then displacement else force) = error
  split_ifs
  · exact (kept error).trackReached
  · exact h
  · exact h
  · exact h

theorem Station.AttentionOk.supervise (force displacement : Int) (status : AmpStatus) (answered : Int) :
    (st.supervise cfg force displacement status answered).AttentionOk :=
  (((h.tripMaskCheck status).holdMaskCheck status).windowCheck force displacement).trackCheck answered force displacement

theorem Station.AttentionOk.estopRises : (st.estopRises cfg).AttentionOk := by
  refine AttentionOk.takeTrip ?_ _ _
  exact h.raise .estop

theorem Station.AttentionOk.takeResponse (kind : TransferKind) (bits : BitVec 48) :
    (st.takeResponse cfg kind bits).AttentionOk := by
  unfold Station.takeResponse
  cases kind with
  | none => exact h
  | command =>
    simp only
    split
    · refine AttentionOk.supervise ?_ _ _ _ _
      exact h
    · exact h
  | side =>
    simp only
    split
    · exact h.raise .sideDone
    · exact h
  | auto =>
    simp only
    split <;> exact h

/-- A slot writes the drive line and then attributes the bits that have come in (R142, R144, R146). -/
theorem Station.AttentionOk.transfer (d : DriveLine) (kind : TransferKind) (bits : BitVec 48) :
    (({ st with drive := d } : Station).takeResponse cfg kind bits).AttentionOk :=
  AttentionOk.takeResponse (st := { st with drive := d }) h kind bits

theorem Station.AttentionOk.evaluateBand (o : Offer) : (st.evaluateBand cfg o).AttentionOk := by
  unfold Station.evaluateBand
  simp only
  split
  · split
    · split <;> exact h
    · split <;> exact h
    · exact h
  · exact h

theorem Station.AttentionOk.slotA (c : Int) (bits : BitVec 48) : (st.slotA cfg c bits).AttentionOk := by
  unfold Station.slotA
  simp only
  split
  · exact h.transfer (cfg := cfg) _ _ bits
  · exact h

theorem Station.AttentionOk.slotB (bits : BitVec 48) : (st.slotB cfg bits).AttentionOk := by
  unfold Station.slotB
  simp only
  split
  · exact h.transfer _ _ bits
  · exact h.transfer _ _ bits
  · exact h

theorem Station.AttentionOk.checkSilence : (st.checkSilence cfg).AttentionOk := by
  unfold Station.checkSilence
  split
  · exact (h.raise .driveSilent).takeTrip _ _
  · exact h

theorem Station.AttentionOk.driveUpdate (inA inB : BitVec 48) : (st.driveUpdate cfg inA inB).AttentionOk := by
  have opened : st.countSilence.AttentionOk := h
  unfold Station.driveUpdate
  split
  · exact h
  · exact (((opened.evaluateBand _).slotA _ inA).slotB inB).checkSilence

/-! ### The rig link (R70, R76, R86, R93, R99, R120, R129 to R135) -/

theorem Station.AttentionOk.receiveGo (bySelf : Bool) (fp : BitVec 16) (pass : BitVec 32) (whole : BitVec 48) :
    (st.receiveGo cfg bySelf fp pass whole).AttentionOk := by
  have dropped : (if bySelf = false ∧ isGo st.link.controlSlot then st.emptyControl else st).AttentionOk := by
    split <;> exact h
  unfold Station.receiveGo
  simp only
  generalize (if bySelf = false ∧ isGo st.link.controlSlot then st.emptyControl else st) = x at dropped ⊢
  split
  · have started : (x.zeroFade.clearRunMarks).AttentionOk := dropped
    exact started.beginCountdown _ _
  · exact dropped

theorem Station.AttentionOk.receiveHold (sender : StationNo) : (st.receiveHold cfg sender).AttentionOk := by
  unfold Station.receiveHold
  split
  · exact h
  · cases st.ctl.mode with
    | countdown | rampIn | playing | rampOutMoving | rampOutParked | held => exact h.takeReason _ _
    | unconfigured | idle | armed | ending | complete | tripped => exact h

theorem Station.AttentionOk.receiveResume (fp : BitVec 16) (pass : BitVec 32) (whole : BitVec 48) :
    (st.receiveResume cfg fp pass whole).AttentionOk := by
  unfold Station.receiveResume
  split_ifs
  · refine AttentionOk.beginCountdown ?_ _ _
    exact h
  · exact h
  · exact h

theorem Station.AttentionOk.receiveTrip (sender : StationNo) (bySelf : Bool) : (st.receiveTrip cfg sender bySelf).AttentionOk := by
  unfold Station.receiveTrip
  split
  · exact h
  · exact h.takeTrip _ _

theorem Station.AttentionOk.receiveBeat (sender : StationNo) (f : BeatFields) : (st.receiveBeat cfg sender f).AttentionOk := by
  unfold Station.receiveBeat
  split
  · exact h
  · exact ((h.enterBeat _ _).testHoldFlag _ _).testTripped _ _

theorem Station.AttentionOk.deliver (f : RigFrame) (bySelf : Bool) : (st.deliver cfg f bySelf).AttentionOk := by
  have tested : (if isClash cfg f bySelf then st.reportClash cfg else st).AttentionOk := by
    split
    · exact h.reportClash
    · exact h
  unfold Station.deliver
  simp only
  cases f.body with
  | beat b => exact tested.receiveBeat _ b
  | go fp pass whole => exact (tested.receiveGo bySelf fp pass whole).recordControl _ _
  | hold reasons => exact (tested.receiveHold _).recordControl _ _
  | resume fp pass whole => exact (tested.receiveResume fp pass whole).recordControl _ _
  | trip cause => exact (tested.receiveTrip _ bySelf).recordControl _ _

theorem Station.AttentionOk.takeOwnFrame : (st.takeOwnFrame cfg).AttentionOk := by
  unfold Station.takeOwnFrame
  split
  · exact h
  · refine AttentionOk.deliver ?_ _ _
    exact h

theorem Station.AttentionOk.receive (sender : Sender) (body : FrameBody) : (st.receive cfg sender body).AttentionOk := by
  have cleared : st.abortOver.AttentionOk := h
  have own := cleared.takeOwnFrame (cfg := cfg)
  rcases receive_cases st cfg sender body with ⟨-, -, received⟩ | ⟨-, received⟩
  · exact received ▸ own
  · exact received ▸ own.deliver _ _

theorem Station.AttentionOk.idlePoint : (st.idlePoint cfg).AttentionOk := by
  have attempted {x : Station} (hx : x.AttentionOk) : (x.beginAttempt cfg).AttentionOk := by
    unfold Station.beginAttempt
    split <;> exact hx
  have cleared : st.abortOver.AttentionOk := h
  have own := cleared.takeOwnFrame (cfg := cfg)
  unfold Station.idlePoint
  simp only
  split
  · exact attempted own
  · exact own

theorem Station.AttentionOk.abortLimit : (st.abortLimit cfg).AttentionOk := by
  refine AttentionOk.reportReason ?_ .link
  exact h.raise .linkError

theorem Station.AttentionOk.abortAttempt : (st.abortAttempt cfg).AttentionOk := by
  have stopped : st.stopAborted.AttentionOk := h
  unfold Station.abortAttempt
  simp only
  split
  · exact stopped.abortLimit
  · exact stopped

theorem Station.AttentionOk.badFrameEnds (otherDriving : Bool) : (st.badFrameEnds otherDriving).AttentionOk := by
  rcases badFrameEnds_cases st otherDriving with ⟨-, -, ended⟩ | ⟨-, ended⟩
  · exact ended ▸ h
  · exact ended ▸ h.raise .linkError

/-- An outcome of an attempt, where one is under way, keeps what the outcome keeps (R130). -/
theorem Station.AttentionOk.withAttempt {f : Attempt → Station} (keeps : ∀ a, (f a).AttentionOk) :
    (st.withAttempt f).AttentionOk := by
  unfold Station.withAttempt
  split
  · exact h
  · exact keeps _

/-! ### The requests (9.4)

A reply changes the port alone, so a refusal leaves `h` as it is. -/

theorem Station.AttentionOk.setSegment (id : Nat) (r : Segment) : (st.setSegment id r).AttentionOk := by
  unfold Station.setSegment
  split <;> exact h

theorem Station.AttentionOk.setCut (id : Nat) (cut : Bool) : (st.setCut id cut).AttentionOk := by
  unfold Station.setCut
  split <;> exact h

theorem Station.AttentionOk.takeSegmentOpen (kind : Byte) (id : BitVec 8) (length : BitVec 32) (expected : BitVec 16) :
    (st.takeSegmentOpen kind id length expected).AttentionOk := by
  unfold Station.takeSegmentOpen
  split_ifs
  · exact h
  · exact h
  · exact h
  · split <;> exact h
  · split
    · exact h
    · simp only
      split
      · exact h
      · exact h.setSegment _ _

theorem Station.AttentionOk.takeSegmentData (kind : Byte) (id : BitVec 8) (part : BitVec 32) (samples : List Sample) :
    (st.takeSegmentData kind id part samples).AttentionOk := by
  have stored (store : Store) (r : Segment) : (({ st with store := store } : Station).setSegment id.toNat r).AttentionOk :=
    AttentionOk.setSegment (st := { st with store := store }) h _ r
  unfold Station.takeSegmentData
  split_ifs
  · exact h
  · exact h
  · split
    · simp only
      split_ifs
      · rcases refusePart_cases st kind id.toNat part.toNat _ with ⟨-, -, -, refused⟩ | ⟨-, refused⟩ <;> exact refused ▸ h
      · exact h
      · exact h
      · exact h
      · exact stored _ _
      · exact (stored _ _).raise .segmentReady
      · exact (stored _ _).raise .segmentBad
    all_goals exact h

theorem Station.AttentionOk.takeSegmentDiscard (kind : Byte) (id : BitVec 8) :
    (st.takeSegmentDiscard kind id).AttentionOk := by
  unfold Station.takeSegmentDiscard
  split_ifs
  · exact h
  · exact h
  · exact h
  · exact h
  · exact (h.setCut _ _).setSegment _ _

theorem Station.AttentionOk.takeSegmentInfo (kind : Byte) (id : BitVec 8) : (st.takeSegmentInfo kind id).AttentionOk := by
  unfold Station.takeSegmentInfo
  split <;> exact h

theorem Station.AttentionOk.takePlaylistAppend (kind : Byte) (id : BitVec 8) (repeats : BitVec 16) (wait : BitVec 8) :
    (st.takePlaylistAppend kind id repeats wait).AttentionOk := by
  unfold Station.takePlaylistAppend
  simp only
  split_ifs <;> exact h

theorem Station.AttentionOk.takePlaylistClear (kind : Byte) : (st.takePlaylistClear kind).AttentionOk := by
  unfold Station.takePlaylistClear
  split <;> exact h

theorem Station.AttentionOk.takePlaylistRead (kind : Byte) (index : BitVec 8) :
    (st.takePlaylistRead kind index).AttentionOk := by
  unfold Station.takePlaylistRead
  simp only
  split <;> exact h

theorem Station.AttentionOk.takeSchedulePasses (kind : Byte) (passes : BitVec 16) :
    (st.takeSchedulePasses kind passes).AttentionOk := by
  unfold Station.takeSchedulePasses
  split <;> exact h

theorem Station.AttentionOk.takeArm (kind : Byte) : (st.takeArm cfg kind).AttentionOk := by
  unfold Station.takeArm
  split
  · exact h
  · split
    · exact h
    · exact h.armNow (cfg := cfg)

theorem Station.AttentionOk.takeDisarm (kind : Byte) : (st.takeDisarm cfg kind).AttentionOk := by
  unfold Station.takeDisarm
  cases st.ctl.mode with
  | armed | held | complete => exact h.enterIdle (cfg := cfg)
  | unconfigured | idle | countdown | rampIn | playing | rampOutMoving | rampOutParked | ending | tripped => exact h

theorem Station.AttentionOk.takeStart (kind : Byte) (position : Option (BitVec 32 × BitVec 48)) :
    (st.takeStart cfg kind position).AttentionOk := by
  unfold Station.takeStart
  simp only
  split_ifs
  · exact h
  · exact h
  · split <;> exact h

theorem Station.AttentionOk.takeHold (kind : Byte) : (st.takeHold cfg kind).AttentionOk := by
  unfold Station.takeHold
  cases st.ctl.mode with
  | countdown | rampIn | playing | held => exact h.reportReason (cfg := cfg) .host
  | unconfigured | idle | armed | rampOutMoving | rampOutParked | ending | complete | tripped => exact h

theorem Station.AttentionOk.takeResume (kind : Byte) : (st.takeResume cfg kind).AttentionOk := by
  unfold Station.takeResume
  simp only
  split_ifs
  · exact h
  · exact h
  · split <;> exact h

theorem Station.AttentionOk.takeAcknowledge (kind : Byte) (reasons : BitVec 16) :
    (st.takeAcknowledge kind reasons).AttentionOk := by
  unfold Station.takeAcknowledge
  split <;> exact h

theorem Station.AttentionOk.takeAbort (kind : Byte) : (st.takeAbort cfg kind).AttentionOk := by
  unfold Station.takeAbort
  split
  · exact h.takeTrip (cfg := cfg) .host _
  · exact h

theorem Station.AttentionOk.takeClearTrip (kind : Byte) : (st.takeClearTrip cfg kind).AttentionOk := by
  unfold Station.takeClearTrip
  split_ifs
  · exact h
  · exact h
  · exact h.enterIdle (cfg := cfg)

theorem Station.AttentionOk.takeSetLevel (kind : Byte) (target : BitVec 16) : (st.takeSetLevel kind target).AttentionOk := by
  unfold Station.takeSetLevel
  split
  · exact h
  · split <;> exact h

theorem Station.AttentionOk.takeSideSend (kind : Byte) (word : BitVec 32) : (st.takeSideSend kind word).AttentionOk := by
  unfold Station.takeSideSend
  split_ifs <;> exact h

theorem Station.AttentionOk.takePeerRead (kind : Byte) (number : BitVec 8) : (st.takePeerRead kind number).AttentionOk := by
  have entry (o : Option PeerEntry) : (match o with
      | none => st.answer kind .ok [0]
      | some e => st.answer kind .ok (1 :: e.body)).AttentionOk := by
    cases o <;> exact h
  unfold Station.takePeerRead
  split
  · simp only
    split
    · exact entry _
    · split
      · exact h
      · exact entry _
  · exact h

/-- EVENTS-CLEAR computes ATTENTION from what is left of the latched set (R183, R184). -/
theorem Station.AttentionOk.takeEventsClear (kind : Byte) (events : BitVec 16) :
    (st.takeEventsClear kind events).AttentionOk := by
  unfold Station.takeEventsClear
  split
  · exact h
  · exact ⟨rfl, h.right⟩

theorem Station.AttentionOk.takeReportRate (kind : Byte) (n : BitVec 8) : (st.takeReportRate kind n).AttentionOk := by
  unfold Station.takeReportRate
  split <;> exact h

omit h in
/-- CONFIGURE brings the mask with the configuration, and the STATE raised on entering IDLE sets ATTENTION by it (R189). -/
theorem Station.configureNow_attentionOk (st : Station) (cfg : ConfigRecord) : (st.configureNow cfg).AttentionOk := by
  unfold Station.configureNow
  simp only
  split
  · refine AttentionOk.estopRises ?_
    exact enterMode_attentionOk rfl cfg .idle
  · exact enterMode_attentionOk rfl cfg .idle

theorem Station.AttentionOk.takeConfigure (kind : Byte) (record : ConfigRecord) :
    (st.takeConfigure kind record).AttentionOk := by
  unfold Station.takeConfigure
  split
  · exact h
  · split
    · exact h
    · exact configureNow_attentionOk st record

theorem Station.AttentionOk.runRequest (kind : Byte) {f : ConfigRecord → Station} (keeps : ∀ cfg, (f cfg).AttentionOk) :
    (st.runRequest kind f).AttentionOk := by
  unfold Station.runRequest
  split
  · exact h
  · exact keeps _

theorem Station.AttentionOk.takeRequest (r : Request) : (st.takeRequest r).AttentionOk := by
  cases r with
  | identify | status | eventsRead | sideRead | stationReset => exact h
  | configure record => exact h.takeConfigure _ record
  | segmentOpen id length expected => exact h.takeSegmentOpen _ id length expected
  | segmentData id part samples => exact h.takeSegmentData _ id part samples
  | segmentDiscard id => exact h.takeSegmentDiscard _ id
  | segmentInfo id => exact h.takeSegmentInfo _ id
  | playlistAppend id repeats wait => exact h.takePlaylistAppend _ id repeats wait
  | playlistClear => exact h.takePlaylistClear _
  | playlistRead index => exact h.takePlaylistRead _ index
  | schedulePasses passes => exact h.takeSchedulePasses _ passes
  | arm => exact h.runRequest _ fun _ => h.takeArm _
  | disarm => exact h.runRequest _ fun _ => h.takeDisarm _
  | start position => exact h.runRequest _ fun _ => h.takeStart _ position
  | hold => exact h.runRequest _ fun _ => h.takeHold _
  | resume => exact h.runRequest _ fun _ => h.takeResume _
  | acknowledge reasons => exact h.takeAcknowledge _ reasons
  | abort => exact h.runRequest _ fun _ => h.takeAbort _
  | clearTrip => exact h.runRequest _ fun _ => h.takeClearTrip _
  | setLevel target => exact h.takeSetLevel _ target
  | sideSend word => exact h.takeSideSend _ word
  | peerRead number => exact h.takePeerRead _ number
  | eventsClear events => exact h.takeEventsClear _ events
  | reportRate n => exact h.takeReportRate _ n

/-! ### The host port (R172 to R179, R185) -/

theorem Station.AttentionOk.transmitterTake : st.transmitterTake.AttentionOk := by
  obtain ⟨p, taken⟩ := transmitterTake_cases st
  exact taken ▸ h

theorem Station.AttentionOk.joinBuffers (f : HostFrame) : (st.joinBuffers f).AttentionOk := by
  obtain ⟨p, joined⟩ := joinBuffers_cases st f
  exact joined ▸ h

theorem Station.AttentionOk.serve (f : HostFrame) : (st.serve f).AttentionOk := by
  unfold Station.serve
  split
  · exact h
  · exact h.takeRequest _

theorem Station.AttentionOk.serveWaiting : st.serveWaiting.AttentionOk := by
  unfold Station.serveWaiting
  split
  · exact h
  · split
    · exact h
    · refine AttentionOk.serve ?_ _
      exact h

theorem Station.AttentionOk.settlePort : st.settlePort.AttentionOk := h.transmitterTake.serveWaiting.serveWaiting

theorem Station.AttentionOk.frameCompletes (f : HostFrame) : (st.frameCompletes f).AttentionOk := (h.joinBuffers f).settlePort

theorem Station.AttentionOk.hostRequest (r : Request) : (st.hostRequest r).AttentionOk := by
  unfold Station.hostRequest
  split_ifs
  · exact h.takeRequest r
  · exact h.frameCompletes _
  · exact h

theorem Station.AttentionOk.takeHostByte (b : Byte) : (st.takeHostByte b).AttentionOk := by
  unfold Station.takeHostByte
  split
  · split <;> exact h
  · split
    · exact h
    · refine AttentionOk.frameCompletes ?_ _
      exact h

theorem Station.AttentionOk.frameSent : st.frameSent.AttentionOk := by
  unfold Station.frameSent
  split
  · exact h
  · split
    · exact softReset_attentionOk st
    · refine AttentionOk.settlePort ?_
      exact h

theorem Station.AttentionOk.partialTick : st.partialTick.AttentionOk := by
  unfold Station.partialTick
  simp only
  split_ifs <;> exact h

theorem Station.AttentionOk.reportFalls : st.reportFalls.AttentionOk := by
  refine AttentionOk.transmitterTake ?_
  exact h

theorem Station.AttentionOk.reportTick : st.reportTick.AttentionOk := by
  unfold Station.reportTick
  split_ifs
  · exact h
  · exact h.reportFalls
  · exact h
  · exact h

/-! ### The update (R39, R140) -/

theorem Station.AttentionOk.configuredUpdate (inA inB : BitVec 48) : (st.configuredUpdate cfg inA inB).AttentionOk :=
  (h.takeReported.takeDueBeat.tickPeers.countDown.replayUpdate.driveUpdate inA inB).partialTick.reportTick

theorem Station.AttentionOk.update (inA inB : BitVec 48) : (st.update inA inB).AttentionOk := by
  unfold Station.update
  split
  · split
    · exact h.partialTick
    · exact h.configuredUpdate inA inB
  · exact h

/-- An event of a running, configured station keeps what its effect keeps; at any other station it has none. -/
theorem Station.AttentionOk.whenConfigured {f : ConfigRecord → Station → Station} (keeps : ∀ cfg, (f cfg st).AttentionOk) :
    (st.whenConfigured f).AttentionOk := by
  unfold Station.whenConfigured
  split
  · exact keeps _
  · exact h

end

/-! ### Every command, and the step -/

theorem Station.AttentionOk.ite {a b : Station} {p : Prop} [Decidable p] (ha : a.AttentionOk) (hb : b.AttentionOk) :
    (if p then a else b).AttentionOk := by
  split <;> assumption

/-- Every command completes, with ATTENTION in order. -/
theorem exec_keeps_attentionOk {s : State} (h : s.station.AttentionOk) (c : Instr) :
    ∃ st : Station, exec c s = .next (s.withStation st) ∧ st.AttentionOk := by
  cases c with
  | identify | configure | segmentOpen | segmentData | segmentDiscard | segmentInfo | playlistAppend | playlistClear
  | playlistRead | schedulePasses | arm | disarm | start | holdRequest | resumeRequest | acknowledge | abort | clearTrip
  | setLevel | sideSend | sideRead | status | peerRead | eventsRead | eventsClear | reportRate | stationReset =>
    exact ⟨_, rfl, h.hostRequest _⟩
  | stationResetEffect => exact ⟨_, rfl, .ite (Station.softReset_attentionOk _) h⟩
  | hostFrameRefused frame => exact ⟨_, rfl, .ite (h.frameCompletes frame) h⟩
  | hostByte b => exact ⟨_, rfl, .ite (h.takeHostByte b) h⟩
  | partialFrameTimeout => exact ⟨_, rfl, .ite (a := s.station.discardPartial) h h⟩
  | transmitterFrameSent => exact ⟨_, rfl, .ite h.frameSent h⟩
  | reportDue =>
    refine ⟨_, rfl, h.whenConfigured fun _ => .ite (Station.AttentionOk.reportFalls ?_) h⟩
    exact h
  | update inA inB => exact ⟨_, rfl, h.update inA inB⟩
  | trackCountReached => exact ⟨_, rfl, h.whenConfigured fun _ => .ite h.trackReached h⟩
  | driveSilence => exact ⟨_, rfl, h.whenConfigured fun _ => h.checkSilence⟩
  | countdownExpiry => exact ⟨_, rfl, h.whenConfigured fun _ => h.expireCountdown⟩
  | endOfRampIn => exact ⟨_, rfl, h.whenConfigured fun _ => h.endRampIn⟩
  | endOfRampOut => exact ⟨_, rfl, h.whenConfigured fun _ => h.endRampOut⟩
  | peerStale number => exact ⟨_, rfl, h.whenConfigured fun _ => .ite h.tickAhead h⟩
  | beatInstant => exact ⟨_, rfl, h.whenConfigured fun _ => .ite h.beatWork (.ite h.tickAhead.beatWork h)⟩
  | idlePoint => exact ⟨_, rfl, h.whenConfigured fun _ => h.idlePoint⟩
  | arbitrationLost | attemptCompleted => exact ⟨_, rfl, h.whenConfigured fun _ => h.withAttempt fun _ => h⟩
  | attemptAborted => exact ⟨_, rfl, h.whenConfigured fun _ => h.withAttempt fun _ => h.abortAttempt⟩
  | consecutiveAbortLimit =>
    have stopped : s.station.stopAborted.AttentionOk := h
    exact ⟨_, rfl, h.whenConfigured fun _ => h.withAttempt fun _ => .ite stopped.abortLimit h⟩
  | frameDropped frame =>
    refine ⟨_, rfl, h.whenConfigured fun _ => ?_⟩
    split
    · exact h.badFrameEnds _
    · exact h.receive _ _
  | beatFrame | goFrame | holdFrame | resumeFrame | tripFrame => exact ⟨_, rfl, h.whenConfigured fun _ => h.receive _ _⟩
  | estopActive =>
    have active : ({ s.station with estopLine := true } : Station).AttentionOk := h
    exact ⟨_, rfl, active.whenConfigured fun _ => .ite active active.estopRises⟩
  | estopInactive =>
    have inactive : ({ s.station with estopLine := false } : Station).AttentionOk := h
    exact ⟨_, rfl, inactive.whenConfigured fun _ => inactive⟩
  | powerOn | resetLineActive | powerOff => exact ⟨_, rfl, Station.hardReset_attentionOk _⟩
  | resetLineInactive => exact ⟨_, rfl, .ite (Station.hardReset_attentionOk _) h⟩

/-- A step is one command or none, so what every command keeps of the station every step keeps (log entry 1). -/
theorem step_keeps {P : Station → Prop}
    (keeps : ∀ (s : State) (c : Instr), P s.station → ∃ st, exec c s = .next (s.withStation st) ∧ P st)
    {s t : State} (h : P s.station) (stepped : step s = .next t) : P t.station := by
  unfold step at stepped
  split at stepped
  · cases stepped
    exact h
  · next c rest _ =>
    obtain ⟨st, executed, kept⟩ := keeps { s with pending := rest } c h
    rw [executed] at stepped
    cases stepped
    exact kept

/-- Settles O53: every command keeps ATTENTION in order, and a step is one command or none. -/
theorem stepKeepsAttention : Obligations.StepKeepsAttention := by
  unfold Obligations.StepKeepsAttention
  exact fun _ _ h stepped => step_keeps (P := Station.AttentionOk) (fun _ c h => exec_keeps_attentionOk h c) h stepped

end Sys2Proof.Machine
end
section
/-! WHAT A COMMAND CAN CHANGE, SAID ONCE. Inside a configuration every operation of the blocks is a chain of the changes that
`Change` lists, each with the guard that the rules put before it; a request is then `Taken`, and a command is a chain of
`Turn`s. A predicate that every one of these keeps is kept by every command, so the invariants of the station are proved by
cases over them and never walk through the operations again. -/

namespace Sys2Proof.Machine

/-! ### The changes within a configuration -/

/-- The state that an update began in, against the state in which its steps 2 to 7 are made: the same, or one that a park of
step 1 has entered from a moving state, where no end of a fade is reported yet (R31, R32; log entry 9). -/
def Station.MayPark (st : Station) (m : Mode) : Prop :=
  st.ctl.mode = m ∨ (m.isMoving = true ∧ (st.ctl.mode = .rampOutParked ∨ st.ctl.mode = .ending) ∧ st.engine.fadeEnd = none)

/-- One change of a station in the configuration cfg. -/
inductive Change (cfg : ConfigRecord) (st : Station) : Station → Prop where
  /-- An event is raised (R181). -/
  | raise (e : Event) : Change cfg st (st.raise e)
  /-- A clash is recorded (R120). -/
  | clash : Change cfg st { st with ctl := { st.ctl with clash := true } }
  /-- The Peer Table changes beside its entries: the own share, the beat counter, the trim, the group sum and the marks. -/
  | peersAside (p : PeerTable) (entries : p.entries = st.peers.entries := by rfl) : Change cfg st { st with peers := p }
  /-- The Supervision Unit keeps a result (R159 to R166). -/
  | supAside (u : Supervision) (trackCount : u.trackCount = st.sup.trackCount := by rfl) : Change cfg st { st with sup := u }
  /-- The drive line changes beside its queue and counters. -/
  | driveAside (d : DriveLine) (sideQueue : d.sideQueue = st.drive.sideQueue := by rfl)
      (sideLoss : d.sideLoss = st.drive.sideLoss := by rfl) (silence : d.silence = st.drive.silence := by rfl)
      (refresh : d.refresh = st.drive.refresh := by rfl) : Change cfg st { st with drive := d }
  /-- A hold reason is taken (R65, R66). -/
  | takeReason (r : HoldReason) (origin : StationNo) : Change cfg st (st.takeReason cfg r origin)
  /-- A trip cause is taken (R91, R92). -/
  | takeTrip (cause : TripCause) (origin : StationNo) : Change cfg st (st.takeTrip cfg cause origin)
  /-- IDLE is entered (R74, R95). -/
  | enterIdle (mode : st.ctl.mode = .armed ∨ st.ctl.mode = .held ∨ st.ctl.mode = .complete ∨ st.ctl.mode = .tripped) :
      Change cfg st (st.enterIdle cfg)
  /-- An ARM whose conditions hold is accepted (R72, R73). -/
  | arm (mode : st.ctl.mode = .idle) (conditions : st.armFailure = none) : Change cfg st (st.armNow cfg)
  /-- A GO is taken (R76). -/
  | go (fp : BitVec 16) (pass : BitVec 32) (whole : BitVec 48) (mode : st.ctl.mode = .armed)
      (fits : st.matchesSchedule fp pass whole = true) :
      Change cfg st ((st.zeroFade.clearRunMarks).beginCountdown cfg pass.toNat whole.toNat)
  /-- A RESUME is taken (R86). -/
  | resume (fp : BitVec 16) (pass : BitVec 32) (whole : BitVec 48) (mode : st.ctl.mode = .held)
      (fits : st.matchesSchedule fp pass whole = true) (unlatched : latchedSet st.ctl.reasons = 0#10) :
      Change cfg st (({ st with ctl := { st.ctl with reasons := withoutResumable st.ctl.reasons, holdRecord := none } } :
        Station).beginCountdown cfg pass.toNat whole.toNat)
  /-- The countdown's expiry is taken (R78). -/
  | expireCountdown : Change cfg st (st.expireCountdown cfg)
  /-- The end of a ramp-in is taken (R49). -/
  | endRampIn : Change cfg st (st.endRampIn cfg)
  /-- The end of a ramp-out is taken (R50). -/
  | endRampOut : Change cfg st (st.endRampOut cfg)
  /-- The countdown decreases (R78). -/
  | countDown : Change cfg st st.countDown
  /-- The fraction takes the sum modulo 65536 (R40). -/
  | fraction (p : Position) (sum : Nat) (position : st.engine.position = some p) (unparked : p.park = .none) :
      Change cfg st (st.setPosition { p with fraction := sum % 65536 })
  /-- A single step, with what it reports (R29 to R33). -/
  | step (p : Position) (position : st.engine.position = some p) :
      Change cfg st ((st.setPosition (st.singleStep p).1).takeStepReport cfg (st.singleStep p).2)
  /-- Steps 2 to 7 of an update that began in the state m (R43 to R57). -/
  | compute (m : Mode) (r : EngineRegs) (regs : st.engine.regs = some r) (began : st.MayPark m) :
      Change cfg st (st.computeCommand cfg m r)
  /-- The increment is written: N, or N with a trim in a moving state (R41, R117). -/
  | increment (t : Int) (bound : t = 0 ∨ (st.ctl.mode.isMoving = true ∧ ∃ m, t = trimOf m (nominal cfg))) :
      Change cfg st (st.setIncrement ((nominal cfg : Int) + t).toNat)
  /-- The entries age (R100). -/
  | age : Change cfg st { st with peers := { st.peers with
      entries := st.peers.entries.map fun e => e.map fun x => x.aged (silenceLimit cfg) } }
  /-- A BEAT of another station is entered (R99). -/
  | enterBeat (k : StationNo) (other : k ≠ own cfg) (f : BeatFields) (runGroup : Bool) (kept : Option LastControl) :
      Change cfg st (st.setPeer k (entryOfBeat f runGroup kept))
  /-- A control frame is recorded in its sender's entry (R101). -/
  | recordControl (k : StationNo) (e : PeerEntry) (seen : ControlSeen) (entry : st.peer k = some e) :
      Change cfg st (st.setPeer k { e with lastControl := some { seen := seen, age := 0 } })
  /-- The BEAT slot is filled (R104). -/
  | refillBeat : Change cfg st st.refillBeat
  /-- An own GO is removed from CONTROL (R77). -/
  | emptyControl : Change cfg st st.emptyControl
  /-- A frame is placed in CONTROL by START, by RESUME, or in answer to a RESUME (R75, R85, R87). -/
  | placeControl (body : FrameBody) (mode : st.ctl.mode = .armed ∨ st.ctl.mode = .held) : Change cfg st (st.placeControl body)
  /-- A slot is latched and its attempt begins (R129). -/
  | beginAttempt (attempt : st.link.attempt = none) (aborted : st.link.ownAborted = false) :
      Change cfg st (st.beginAttempt cfg)
  /-- An attempt ends without completing (R130). -/
  | endAttempt : Change cfg st st.endAttempt
  /-- An attempt stops with an abort (R131). -/
  | stopAborted : Change cfg st st.stopAborted
  /-- The consecutive abort count takes a value of its range (R132). -/
  | countAborts (n : Nat) (bound : n ≤ 15) : Change cfg st { st with link := { st.link with aborts := n } }
  /-- An attempt completes (R130, R136). -/
  | completeAttempt (a : Attempt) (attempt : st.link.attempt = some a) : Change cfg st (st.completeAttempt a)
  /-- The own frame is no longer to be taken (R136). -/
  | ownTaken : Change cfg st { st with link := { st.link with ownEnded := none } }
  /-- The own aborted frame is over (R131). -/
  | abortOver : Change cfg st st.abortOver
  /-- A frame is dropped and counted (R134). -/
  | dropFrame : Change cfg st st.dropFrame
  /-- Silence returns to 0 (R146). -/
  | heard : Change cfg st st.heard
  /-- Silence is counted (R152). -/
  | countSilence : Change cfg st st.countSilence
  /-- A side loss is counted (R148). -/
  | countSideLoss : Change cfg st st.countSideLoss
  /-- The oldest side word leaves its queue (R144). -/
  | sendSide (word : BitVec 32) (rest : List (BitVec 32)) (queue : st.drive.sideQueue = word :: rest) :
      Change cfg st { st with drive := { st.drive with sideQueue := rest } }
  /-- The refresh counter returns to 0, or rises by 1 to a value other than its interval (R142). -/
  | refresh (n : Nat) (bound : n = 0 ∨ n = st.drive.refresh.getD 0 + 1 ∧ n ≠ cfg.refreshInterval.toNat) :
      Change cfg st { st with drive := { st.drive with refresh := some n } }
  /-- The tracking counter returns to 0, or takes a value below M (R164). -/
  | track (n : Nat) (bound : n = 0 ∨ n < cfg.trackingCount.toNat) : Change cfg st (st.setTrack n)

/-- A chain of changes. -/
abbrev Changes (cfg : ConfigRecord) : Station → Station → Prop := Relation.ReflTransGen (Change cfg)

section
variable {cfg : ConfigRecord} {a b c st : Station}



theorem Change.chain (h : Change cfg a b) : Changes cfg a b := .single h

theorem Changes.ite {p : Prop} [Decidable p] (hb : p → Changes cfg a b) (hc : ¬ p → Changes cfg a c) :
    Changes cfg a (if p then b else c) := by
  split
  · exact hb ‹_›
  · exact hc ‹_›

/-- What every change keeps, a chain of them keeps. -/
theorem Changes.keeps {P : Station → Prop} (keeps : ∀ {a b}, P a → Change cfg a b → P b) (h : Changes cfg a b) (ha : P a) :
    P b := by
  induction h with
  | refl => exact ha
  | tail _ change ih => exact keeps ih change

end

section
variable (st : Station) (cfg : ConfigRecord)

/-! ### The Station Controller and the Replay Engine -/

theorem Station.reportReason_change (r : HoldReason) : Change cfg st (st.reportReason cfg r) := .takeReason r _

theorem Station.takeReported_changes : Changes cfg st (st.takeReported cfg) :=
  ((Change.expireCountdown.chain).tail .endRampIn).tail .endRampOut

/-- The state entered has no reported end of a fade. -/
@[simp] theorem Station.enterMode_fadeEnd (m : Mode) : (st.enterMode cfg m).engine.fadeEnd = none := by rw [enterMode_eq]

theorem Station.takeWaitPark_mayPark {m : Mode} (h : st.MayPark m) (moving : m.isMoving = true) :
    (st.takeWaitPark cfg).MayPark m := by
  refine .inr ⟨moving, ?_⟩
  rcases h with now | ⟨-, now | now, unreported⟩
  · cases hm : m <;> simp [hm, Mode.isMoving] at moving <;>
      simp [takeWaitPark, reportReason, takeReason, now, hm, startHold_mode, startHold_engine]
  · simp [takeWaitPark, reportReason, takeReason, now, insertReason, unreported]
  · simp [takeWaitPark, reportReason, takeReason, now, insertReason, unreported]

/-- A report of the Schedule parks a moving state, and leaves a state so parked as it is (R31, R32). -/
theorem Station.takeStepReport_mayPark {m : Mode} (h : st.MayPark m) (moving : m.isMoving = true) (r : StepReport) :
    (st.takeStepReport cfg r).MayPark m := by
  cases r with
  | nothing | passEnd => exact h
  | waitPark => exact takeWaitPark_mayPark st cfg h moving
  | endPark =>
    show (st.takeEndPark cfg).MayPark m
    unfold Station.takeEndPark
    split
    · exact .inr ⟨moving, .inr (by simp), by simp⟩
    · exact h

/-- The steps of an advance, one after the other, from the position they begin at (R40). -/
theorem Station.advanceBy_changes (n : Nat) : ∀ (x : Station) (p : Position),
    Changes cfg (x.setPosition p) (x.advanceBy cfg p n) := by
  induction n with
  | zero => intro x p; exact .refl
  | succ n ih =>
    intro x p
    have stepped : Change cfg (x.setPosition p)
        ((x.setPosition (x.singleStep p).1).takeStepReport cfg (x.singleStep p).2) := .step (st := x.setPosition p) p rfl
    have placed : ((x.setPosition (x.singleStep p).1).takeStepReport cfg (x.singleStep p).2).setPosition (x.singleStep p).1 =
        (x.setPosition (x.singleStep p).1).takeStepReport cfg (x.singleStep p).2 := by
      have position := (takeStepReport_kept (x.setPosition (x.singleStep p).1) cfg (x.singleStep p).2).2
      generalize (x.setPosition (x.singleStep p).1).takeStepReport cfg (x.singleStep p).2 = y at position ⊢
      rw [Station.setPosition, ← show y.engine.position = some (x.singleStep p).1 from position]
    have rest := ih ((x.setPosition (x.singleStep p).1).takeStepReport cfg (x.singleStep p).2) (x.singleStep p).1
    rw [placed] at rest
    exact stepped.chain.trans rest

theorem Station.advanceBy_mayPark {m : Mode} (moving : m.isMoving = true) (n : Nat) : ∀ (x : Station) (p : Position),
    x.MayPark m → (x.advanceBy cfg p n).MayPark m := by
  induction n with
  | zero => intro x p h; exact h
  | succ n ih =>
    intro x p h
    exact ih _ _ (takeStepReport_mayPark (x.setPosition (x.singleStep p).1) cfg h moving _)

theorem Station.advance_changes : Changes cfg st (st.advance cfg) := by
  unfold Station.advance
  split
  · next p r position _ =>
    simp only
    split
    · next unparked =>
      exact ((Change.fraction p _ position unparked).chain).trans (advanceBy_changes cfg _ st _)
    · exact .refl
  · exact .refl

theorem Station.advance_mayPark (moving : st.ctl.mode.isMoving = true) :
    (st.advance cfg).MayPark st.ctl.mode := by
  unfold Station.advance
  split
  · simp only
    split
    · exact advanceBy_mayPark cfg moving _ st _ (.inl rfl)
    · exact .inl rfl
  · exact .inl rfl

theorem Station.replayUpdate_changes : Changes cfg st (st.replayUpdate cfg) := by
  have advanced : Changes cfg st (if st.ctl.mode.isMoving then st.advance cfg else st) :=
    .ite (fun _ => advance_changes st cfg) fun _ => .refl
  have began : (if st.ctl.mode.isMoving then st.advance cfg else st).MayPark st.ctl.mode := by
    split
    · exact advance_mayPark st cfg ‹_›
    · exact .inl rfl
  unfold Station.replayUpdate
  simp only
  generalize (if st.ctl.mode.isMoving then st.advance cfg else st) = x at advanced began ⊢
  cases regs : x.engine.regs with
  | none => exact advanced
  | some r => exact advanced.tail (.compute _ r regs began)

/-! ### The Peer Table and the beat instant -/

theorem Station.peerTick_changes : Changes cfg st (st.peerTick cfg) := by
  unfold Station.peerTick
  simp only
  exact .ite (fun _ => ((Change.age.chain).tail (.peersAside _)).tail (.raise _))
    fun _ => (Change.age.chain).tail (.peersAside _)

theorem Station.tickPeers_changes : Changes cfg st (st.tickPeers cfg) :=
  .ite (fun _ => (Change.peersAside _).chain) fun _ => peerTick_changes st cfg

theorem Station.tickAhead_changes : Changes cfg st (st.tickAhead cfg) :=
  (peerTick_changes st cfg).tail (.peersAside _)

theorem Station.consistencyCheck_changes : Changes cfg st (st.consistencyCheck cfg) := by
  have peerTrip (o : Option StationNo) : Changes cfg st (match o with
      | none => st
      | some k => st.takeTrip cfg .peerTrip k) := by
    cases o with
    | none => exact .refl
    | some k => exact (Change.takeTrip _ k).chain
  unfold Station.consistencyCheck
  exact .ite (fun _ => .ite (fun _ => (peerTrip _).tail (reportReason_change _ cfg _)) fun _ => peerTrip _) fun _ => .refl

theorem Station.makeTrim_changes (moving : st.ctl.mode.isMoving = true) (p : Position) (n : Nat) :
    Changes cfg st (st.makeTrim cfg p n) := by
  have trimmed (x : TrimResult) (m : Int) : Changes cfg st
      (({ st with peers := { st.peers with lastTrim := some x } } : Station).setIncrement
        ((nominal cfg : Int) + trimOf m (nominal cfg)).toNat) :=
    (Change.peersAside { st.peers with lastTrim := some x }).chain.tail (.increment _ (.inr ⟨moving, m, rfl⟩))
  unfold Station.makeTrim
  exact .ite (fun _ => (trimmed _ _).tail (reportReason_change _ cfg _)) fun _ => trimmed _ _

theorem Station.trimPart_changes : Changes cfg st (st.trimPart cfg) := by
  have written : Change cfg st (st.setIncrement (nominal cfg)) := by
    simpa using Change.increment (cfg := cfg) (st := st) 0 (.inl rfl)
  unfold Station.trimPart
  refine .ite (fun moving => ?_) fun _ => written.chain
  split
  · exact makeTrim_changes st cfg moving _ _
  · exact .refl

theorem Station.groupCheck_changes : Changes cfg st (st.groupCheck cfg) := by
  have summed : Changes cfg st { st with peers := { st.peers with groupSum := some (st.groupTotal cfg) } } :=
    (Change.peersAside _).chain
  unfold Station.groupCheck
  exact .ite (fun _ => .ite (fun _ => summed.tail (reportReason_change _ cfg _)) fun _ => summed) fun _ => .refl

theorem Station.beatWork_changes : Changes cfg st (st.beatWork cfg) :=
  (((((Change.peersAside _).chain).trans (consistencyCheck_changes _ cfg)).trans (trimPart_changes _ cfg)).trans
    (groupCheck_changes _ cfg)).tail .refillBeat

theorem Station.takeDueBeat_changes : Changes cfg st (st.takeDueBeat cfg) :=
  .ite (fun _ => beatWork_changes st cfg) fun _ => .refl

/-! ### A frame received -/

theorem Station.recordControl_changes (k : StationNo) (seen : ControlSeen) : Changes cfg st (st.recordControl cfg k seen) := by
  unfold Station.recordControl
  refine .ite (fun _ => .refl) fun _ => ?_
  split
  · exact .refl
  · next e entry => exact (Change.recordControl k e seen entry).chain

theorem Station.reportClash_changes : Changes cfg st (st.reportClash cfg) := by
  have noted : Changes cfg st (({ st with ctl := { st.ctl with clash := true } } : Station).raise .clash) :=
    (Change.clash.chain).tail (.raise _)
  exact .ite (fun _ => noted.tail (reportReason_change _ cfg _)) fun _ => noted

theorem Station.enterBeat_changes (k : StationNo) (other : k ≠ own cfg) (f : BeatFields) :
    Changes cfg st (st.enterBeat k f) := by
  have entered := (Change.enterBeat (cfg := cfg) (st := st) k other f st.ctl.mode.inRunGroup
    ((st.peer k).bind (·.lastControl))).chain
  exact .ite (fun _ => entered.tail (.raise _)) fun _ => entered

theorem Station.receiveBeat_changes (k : StationNo) (f : BeatFields) : Changes cfg st (st.receiveBeat cfg k f) := by
  have flag (x : Station) : Changes cfg x (x.testHoldFlag cfg k f) :=
    .ite (fun _ => (Change.takeReason _ _).chain) fun _ => .refl
  have tripped (x : Station) : Changes cfg x (x.testTripped cfg k f) :=
    .ite (fun _ => (Change.takeTrip _ _).chain) fun _ => .refl
  exact .ite (fun _ => .refl) fun other => ((enterBeat_changes st cfg k other f).trans (flag _)).trans (tripped _)

theorem Station.receiveGo_changes (bySelf : Bool) (fp : BitVec 16) (pass : BitVec 32) (whole : BitVec 48) :
    Changes cfg st (st.receiveGo cfg bySelf fp pass whole) := by
  have dropped : Changes cfg st (if bySelf = false ∧ isGo st.link.controlSlot then st.emptyControl else st) :=
    .ite (fun _ => Change.emptyControl.chain) fun _ => .refl
  exact .ite (fun taken => dropped.tail (.go fp pass whole taken.1 taken.2)) fun _ => dropped

theorem Station.receiveHold_changes (k : StationNo) : Changes cfg st (st.receiveHold cfg k) := by
  unfold Station.receiveHold
  refine .ite (fun _ => .refl) fun _ => ?_
  cases st.ctl.mode with
  | countdown | rampIn | playing | rampOutMoving | rampOutParked | held => exact (Change.takeReason _ _).chain
  | unconfigured | idle | armed | ending | complete | tripped => exact .refl

theorem Station.receiveResume_changes (fp : BitVec 16) (pass : BitVec 32) (whole : BitVec 48) :
    Changes cfg st (st.receiveResume cfg fp pass whole) :=
  .ite (fun meets => .ite (fun unlatched => (Change.resume fp pass whole meets.1 meets.2 unlatched).chain)
    fun _ => (Change.placeControl _ (.inr meets.1)).chain) fun _ => .refl

theorem Station.receiveTrip_changes (k : StationNo) (bySelf : Bool) : Changes cfg st (st.receiveTrip cfg k bySelf) :=
  .ite (fun _ => .refl) fun _ => (Change.takeTrip _ _).chain

theorem Station.deliver_changes (f : RigFrame) (bySelf : Bool) : Changes cfg st (st.deliver cfg f bySelf) := by
  have tested : Changes cfg st (if isClash cfg f bySelf then st.reportClash cfg else st) :=
    .ite (fun _ => reportClash_changes st cfg) fun _ => .refl
  unfold Station.deliver
  simp only
  cases f.body with
  | beat b => exact tested.trans (receiveBeat_changes _ cfg _ b)
  | go fp pass whole => exact (tested.trans (receiveGo_changes _ cfg bySelf fp pass whole)).trans (recordControl_changes _ cfg _ _)
  | hold reasons => exact (tested.trans (receiveHold_changes _ cfg _)).trans (recordControl_changes _ cfg _ _)
  | resume fp pass whole => exact (tested.trans (receiveResume_changes _ cfg fp pass whole)).trans (recordControl_changes _ cfg _ _)
  | trip cause => exact (tested.trans (receiveTrip_changes _ cfg _ bySelf)).trans (recordControl_changes _ cfg _ _)

theorem Station.takeOwnFrame_changes : Changes cfg st (st.takeOwnFrame cfg) := by
  unfold Station.takeOwnFrame
  split
  · exact .refl
  · exact (Change.ownTaken.chain).trans (deliver_changes _ cfg _ _)

/-- What comes before a frame is taken, and at an idle point: the own abort is over, and the own frame is taken. -/
theorem Station.clearOwn_changes : Changes cfg st (st.abortOver.takeOwnFrame cfg) :=
  (Change.abortOver.chain).trans (takeOwnFrame_changes _ cfg)

theorem Station.receive_changes (sender : Sender) (body : FrameBody) : Changes cfg st (st.receive cfg sender body) :=
  .ite (fun _ => clearOwn_changes st cfg) fun _ => (clearOwn_changes st cfg).trans (deliver_changes _ cfg _ _)

theorem Station.badFrameEnds_changes (otherDriving : Bool) : Changes cfg st (st.badFrameEnds otherDriving) :=
  .ite (fun _ => Change.abortOver.chain) fun _ => (Change.abortOver.chain).tail .dropFrame

/-! ### Idle points and attempts -/

/-- The own frame taken at an idle point leaves the own abort over. -/
theorem Station.clearOwn_ownAborted : (st.abortOver.takeOwnFrame cfg).link.ownAborted = false := by
  unfold Station.takeOwnFrame
  split
  · rfl
  · exact (deliver_attempt _ cfg _ _).2.2.1

theorem Station.idlePoint_changes : Changes cfg st (st.idlePoint cfg) := by
  unfold Station.idlePoint
  simp only
  split
  · next attempt => exact (clearOwn_changes st cfg).tail (.beginAttempt attempt (clearOwn_ownAborted st cfg))
  · exact clearOwn_changes st cfg

theorem Station.abortLimit_changes : Changes cfg st (st.abortLimit cfg) :=
  (((Change.countAborts 0 (by omega)).chain).tail (.raise _)).tail (reportReason_change _ cfg _)

theorem Station.abortAttempt_changes : Changes cfg st (st.abortAttempt cfg) :=
  .ite (fun _ => (Change.stopAborted.chain).trans (abortLimit_changes _ cfg))
    fun below => (Change.stopAborted.chain).tail (.countAborts _ (by omega))

/-! ### The Supervision Unit and the drive line -/

theorem Station.tripMaskCheck_changes (status : AmpStatus) : Changes cfg st (st.tripMaskCheck cfg status) :=
  .ite (fun _ => .ite (fun _ => ((Change.supAside _).chain).tail (.takeTrip _ _))
    fun _ => .ite (fun _ => (Change.raise _).chain) fun _ => .refl) fun _ => .refl

theorem Station.holdMaskCheck_changes (status : AmpStatus) : Changes cfg st (st.holdMaskCheck cfg status) :=
  .ite (fun _ => (reportReason_change st cfg _).chain) fun _ => .refl

theorem Station.windowCheck_changes (force displacement : Int) : Changes cfg st (st.windowCheck cfg force displacement) := by
  unfold Station.windowCheck
  exact .ite (fun _ => .ite (fun _ => ((Change.supAside _).chain).tail (reportReason_change _ cfg _))
    fun _ => (Change.supAside _).chain) fun _ => (Change.supAside _).chain

theorem Station.trackReached_changes : Changes cfg st (st.trackReached cfg) :=
  ((Change.track 0 (.inl rfl)).chain).tail (reportReason_change _ cfg _)

theorem Station.trackCheck_changes (answered force displacement : Int) :
    Changes cfg st (st.trackCheck cfg answered force displacement) := by
  have kept (error : Int) : Changes cfg st { st with sup := { st.sup with lastError := some error } } :=
    (Change.supAside _).chain
  unfold Station.trackCheck
  exact .ite (fun _ => .ite (fun _ => .ite (fun _ => (kept _).trans (trackReached_changes _ cfg))
    fun below => (kept _).tail (.track _ (.inr (Nat.not_le.mp below)))) fun _ => (kept _).tail (.track 0 (.inl rfl)))
    fun _ => (kept _).tail (.track 0 (.inl rfl))

theorem Station.takeFeedback_changes (bits : BitVec 48) (answered : Int) :
    Changes cfg st (st.takeFeedback cfg bits answered) := by
  unfold Station.takeFeedback Station.supervise
  exact (((((Change.driveAside _).chain).tail (.peersAside _)).trans (tripMaskCheck_changes _ cfg _)).trans
    (holdMaskCheck_changes _ cfg _)).trans ((windowCheck_changes _ cfg _ _).trans (trackCheck_changes _ cfg _ _ _))

theorem Station.takeResponse_changes (kind : TransferKind) (bits : BitVec 48) :
    Changes cfg st (st.takeResponse cfg kind bits) := by
  have heard : Changes cfg st st.heard := Change.heard.chain
  cases kind with
  | none => exact .refl
  | command => exact .ite (fun _ => heard.trans (takeFeedback_changes _ cfg bits _)) fun _ => .refl
  | side =>
    exact .ite (fun _ => (heard.tail (.driveAside _)).tail (.raise _)) fun _ => Change.countSideLoss.chain
  | auto => exact .ite (fun _ => heard) fun _ => .refl

theorem Station.estopRises_changes : Changes cfg st (st.estopRises cfg) :=
  (((Change.supAside _).chain).tail (.raise _)).tail (.takeTrip _ _)

theorem Station.evaluateBand_changes (o : Offer) : Changes cfg st (st.evaluateBand cfg o) := by
  have set (band : Band) (word : BitVec 32) : Changes cfg st (st.setBand band word) :=
    (Change.driveAside _).chain
  unfold Station.evaluateBand
  refine .ite (fun _ => ?_) fun _ => .refl
  split
  · exact .ite (fun _ => set _ _) fun _ => .refl
  · exact .ite (fun _ => set _ _) fun _ => .refl
  · exact .refl

theorem Station.slotA_changes (c : Int) (bits : BitVec 48) : Changes cfg st (st.slotA cfg c bits) := by
  unfold Station.slotA
  refine .ite (fun _ => ?_) fun silent => ?_
  · exact ((((Change.refresh 0 (.inl rfl)).chain).tail (.driveAside _)).trans
      (takeResponse_changes _ cfg _ bits)).tail (.driveAside _)
  · refine ((Change.refresh _ (.inr ⟨rfl, fun reached => silent ?_⟩)).chain).tail (.driveAside _)
    simp [DriveLine.slotASends, reached]

theorem Station.slotB_changes (bits : BitVec 48) : Changes cfg st (st.slotB cfg bits) := by
  unfold Station.slotB
  simp only
  split
  · exact ((Change.driveAside _).chain).trans (takeResponse_changes _ cfg _ bits)
  · next word rest _ queue =>
    exact (((Change.sendSide word rest queue).chain).tail (.driveAside _)).trans
      (takeResponse_changes _ cfg _ bits)
  · exact (Change.driveAside _).chain

theorem Station.checkSilence_changes : Changes cfg st (st.checkSilence cfg) :=
  .ite (fun _ => ((Change.raise _).chain).tail (.takeTrip _ _)) fun _ => .refl

theorem Station.driveUpdate_changes (inA inB : BitVec 48) : Changes cfg st (st.driveUpdate cfg inA inB) := by
  unfold Station.driveUpdate
  split
  · exact .refl
  · exact ((((Change.countSilence.chain).trans (evaluateBand_changes _ cfg _)).trans (slotA_changes _ cfg _ inA)).trans
      (slotB_changes _ cfg inB)).trans (checkSilence_changes _ cfg)

/-! ### The update, but for the timers of the host port -/

/-- The part of an update that comes before the timers of the host port: the blocks in the order of log entry 5. -/
def Station.blocksUpdate (inA inB : BitVec 48) : Station :=
  (((((st.takeReported cfg).takeDueBeat cfg).tickPeers cfg).countDown).replayUpdate cfg).driveUpdate cfg inA inB

theorem Station.configuredUpdate_eq (inA inB : BitVec 48) :
    st.configuredUpdate cfg inA inB = (st.blocksUpdate cfg inA inB).partialTick.reportTick := rfl

theorem Station.blocksUpdate_changes (inA inB : BitVec 48) : Changes cfg st (st.blocksUpdate cfg inA inB) :=
  (((((takeReported_changes st cfg).trans (takeDueBeat_changes _ cfg)).trans (tickPeers_changes _ cfg)).tail .countDown).trans
    (replayUpdate_changes _ cfg)).trans (driveUpdate_changes _ cfg inA inB)

end

end Sys2Proof.Machine
end
section
/-! WHAT A REQUEST AND A COMMAND CAN CHANGE. A request is taken, and then answered; a command is a chain of turns. -/

namespace Sys2Proof.Machine

/-! ### What the taking of a request does before it is answered (9.4) -/

/-- The record of a segment once a part of it has been written (R9, R10). -/
def afterPart (b : SegmentBody) (received next : Nat) (samples : List Sample) : Segment :=
  let b' := { b with computed := checksum b.computed samples }
  if received + samples.length < b.length then .loading b' (received + samples.length) (next + 1)
  else if b'.computed = b'.expected then .ready b' else .bad b'

/-- The taking of one request, but for its answer. -/
inductive Taken (st : Station) : Station → Prop where
  /-- A refusal, and a request that reads, changes nothing. -/
  | nothing : Taken st st
  /-- A request of the Station Controller acts within the configuration in force. -/
  | controller (cfg : ConfigRecord) (config : st.config = some cfg) {b : Station} (changes : Changes cfg st b) : Taken st b
  /-- CONFIGURE is accepted (R189). -/
  | configure (cfg : ConfigRecord) (mode : st.ctl.mode = .unconfigured) (legal : firstBadField cfg = none) :
      Taken st (st.configureNow cfg)
  /-- SEGMENT-OPEN is accepted (R7). -/
  | segmentOpen (id : Nat) (body : SegmentBody) (segmentId : isSegmentId id = true) (empty : (st.segment id).isEmpty = true)
      (idle : st.loadingId = none) (long : 16 ≤ body.length) (fits : body.length ≤ storeSize)
      (count : body.pageCount = ceilDiv body.length pageSize) (free : st.firstFit body.pageCount = some body.firstPage) :
      Taken st (st.setSegment id (.loading body 0 0))
  /-- SEGMENT-DATA is accepted, with the event of a loading that it ends (R9, R10). -/
  | segmentData (id : Nat) (b : SegmentBody) (m next : Nat) (samples : List Sample) (events : EventSet)
      (segmentId : isSegmentId id = true) (loading : st.segment id = .loading b m next)
      (within : m + samples.length ≤ b.length) (whole : m + samples.length = b.length ∨ samples.length = 48) :
      Taken st { ({ st with store := writeSamples st.store (b.firstPage * pageSize + m) samples } : Station).setSegment id
        (afterPart b m next samples) with events := events }
  /-- SEGMENT-DISCARD is accepted (R12). -/
  | segmentDiscard (id : Nat) (cut : Bool) (segmentId : isSegmentId id = true) (unpinned : st.pinned id = false)
      (mode : st.ctl.mode ≠ .unconfigured) : Taken st ((st.setCut id cut).setSegment id .empty)
  /-- The playlist or P takes a legal value in IDLE (R21, R22, R24). -/
  | schedule (playlist : List Entry) (passes : Nat) (mode : st.ctl.mode = .idle)
      (entries : ∀ e ∈ playlist, e ∈ st.schedule.playlist ∨ e.legal = true)
      (room : playlist.length ≤ st.schedule.playlist.length ∨ playlist.length ≤ playlistCapacity)
      (range : passes = st.schedule.passes ∨ passes ≤ 65535) :
      Taken st { st with schedule := { st.schedule with playlist := playlist, passes := passes } }
  /-- ACKNOWLEDGE removes reasons (R68). -/
  | acknowledge (left : ReasonSet) : Taken st { st with ctl := { st.ctl with reasons := st.ctl.reasons &&& left } }
  /-- SET-LEVEL writes the target (R46). -/
  | setLevel (r : EngineRegs) (target : Nat) (regs : st.engine.regs = some r) :
      Taken st { st with engine := { st.engine with regs := some { r with target := target } } }
  /-- SIDE-SEND adds a word (R145). -/
  | sideSend (word : BitVec 32) (room : st.drive.sideQueue.length < sideCapacity) :
      Taken st { st with drive := { st.drive with sideQueue := st.drive.sideQueue ++ [word] } }
  /-- SIDE-READ clears the new mark (R149). -/
  | sideRead : Taken st { st with drive := { st.drive with newMark := false } }
  /-- EVENTS-CLEAR removes events (R183). -/
  | eventsClear (events : EventSet) : Taken st { st with events := events }
  /-- REPORT-RATE sets n (R185). -/
  | reportRate (n : Nat) (pending : Bool) (still : pending = true → st.port.reportPending = true) :
      Taken st { st with port := { st.port with
        reportInterval := some n, reportTimer := some 0, reportPending := pending, reportTaken := false } }

/-- The taking of a request is answered under its kind: the outcome of every request (R176, R177). -/
def Station.Answered (st after : Station) : Prop :=
  ∃ (taken : Station) (reply : HostReply), Taken st taken ∧ after = { taken with port := taken.port.answer reply }

section
variable {st : Station} {cfg : ConfigRecord} {kind : Byte} {code : ResultCode} {body : List Byte}

theorem Taken.answered {b : Station} (h : Taken st b) : st.Answered (b.answer kind code body) := ⟨_, _, h, rfl⟩

theorem Station.answered_nothing : st.Answered (st.answer kind code body) := Taken.nothing.answered

theorem Station.Answered.ite {p : Prop} [Decidable p] {a b : Station} (ha : p → st.Answered a) (hb : ¬ p → st.Answered b) :
    st.Answered (if p then a else b) := by
  split
  · exact ha ‹_›
  · exact hb ‹_›

theorem Station.takeConfigure_answered (record : ConfigRecord) : st.Answered (st.takeConfigure kind record) := by
  unfold takeConfigure
  refine .ite (fun _ => answered_nothing) fun mode => ?_
  split
  · exact answered_nothing
  · next legal => exact (Taken.configure record (not_not.mp mode) legal).answered

theorem Station.takeSegmentOpen_answered (id : BitVec 8) (length : BitVec 32) (expected : BitVec 16) :
    st.Answered (st.takeSegmentOpen kind id length expected) := by
  unfold takeSegmentOpen
  refine .ite (fun _ => answered_nothing) fun _ => .ite (fun _ => answered_nothing) fun isId =>
    .ite (fun _ => answered_nothing) fun empty => ?_
  split
  · exact answered_nothing
  · next idle =>
    refine .ite (fun _ => answered_nothing) fun range => ?_
    simp only
    split
    · exact answered_nothing
    · next free =>
      exact (Taken.segmentOpen id.toNat ⟨_, _, length.toNat, expected, crcInitHost⟩ (by simpa using isId) (by simpa using empty)
        idle (by simp only; omega) (by simp only; omega) rfl free).answered

theorem Station.takeSegmentData_answered (id : BitVec 8) (part : BitVec 32) (samples : List Sample) :
    st.Answered (st.takeSegmentData kind id part samples) := by
  unfold takeSegmentData
  refine .ite (fun _ => answered_nothing) fun _ => .ite (fun _ => answered_nothing) fun isId => ?_
  split
  · next b m next loading =>
    have written (events : EventSet) (within : ¬ b.length < m + samples.length)
        (whole : ¬ (m + samples.length ≠ b.length ∧ samples.length ≠ 48)) := Taken.segmentData id.toNat b m next samples events
      (by simpa using isId) loading (by omega) (by omega)
    simp only
    refine .ite (fun _ => ?_) fun _ => .ite (fun _ => answered_nothing) fun _ => .ite (fun _ => answered_nothing) fun within =>
      .ite (fun _ => answered_nothing) fun whole => .ite (fun more => ?_) fun last => .ite (fun equal => ?_) fun differ => ?_
    · rcases refusePart_cases st kind id.toNat part.toNat next with ⟨-, -, -, refused⟩ | ⟨-, refused⟩ <;>
        exact refused ▸ answered_nothing
    · have taken := written st.events within whole
      simp only [afterPart, if_pos more] at taken
      exact ⟨_, _, taken, by simp [setSegment]; split <;> rfl⟩
    · have taken := written (st.events.raise .segmentReady) within whole
      simp only [afterPart, if_neg last, if_pos equal] at taken
      exact ⟨_, _, taken, by simp [setSegment]; split <;> rfl⟩
    · have taken := written (st.events.raise .segmentBad) within whole
      simp only [afterPart, if_neg last, if_neg differ] at taken
      exact ⟨_, _, taken, by simp [setSegment]; split <;> rfl⟩
  all_goals exact answered_nothing

theorem Station.takeSegmentDiscard_answered (id : BitVec 8) : st.Answered (st.takeSegmentDiscard kind id) :=
  .ite (fun _ => answered_nothing) fun mode => .ite (fun _ => answered_nothing) fun isId => .ite (fun _ => answered_nothing)
    fun _ => .ite (fun _ => answered_nothing) fun unpinned =>
      (Taken.segmentDiscard _ _ (by simpa using isId) (by simpa using unpinned) mode).answered

theorem Station.takeSegmentInfo_answered (id : BitVec 8) : st.Answered (st.takeSegmentInfo kind id) :=
  .ite (fun _ => answered_nothing) fun _ => answered_nothing

theorem Station.takePlaylistAppend_answered (id : BitVec 8) (repeats : BitVec 16) (wait : BitVec 8) :
    st.Answered (st.takePlaylistAppend kind id repeats wait) := by
  unfold takePlaylistAppend
  refine .ite (fun _ => answered_nothing) fun mode => .ite (fun _ => answered_nothing) fun isId =>
    .ite (fun _ => answered_nothing) fun repeated => .ite (fun _ => answered_nothing) fun _ => .ite (fun _ => answered_nothing)
      fun room => (Taken.schedule _ _ (not_not.mp mode) ?_ ?_ (.inl rfl)).answered
  · intro e he
    rcases List.mem_append.mp he with old | new
    · exact .inl old
    · obtain rfl := List.mem_singleton.mp new
      have := repeats.isLt
      simp only [Entry.legal, Bool.and_eq_true, decide_eq_true_eq]
      exact .inr ⟨⟨by simpa using isId, by omega⟩, by omega⟩
  · simp only [List.length_append, List.length_singleton]
    exact .inr (by omega)

theorem Station.takePlaylistClear_answered : st.Answered (st.takePlaylistClear kind) :=
  .ite (fun _ => answered_nothing) fun mode =>
    (Taken.schedule [] _ (not_not.mp mode) (by simp) (.inl (Nat.zero_le _)) (.inl rfl)).answered

theorem Station.takePlaylistRead_answered (index : BitVec 8) : st.Answered (st.takePlaylistRead kind index) := by
  unfold takePlaylistRead
  simp only
  split <;> exact answered_nothing

theorem Station.takeSchedulePasses_answered (passes : BitVec 16) : st.Answered (st.takeSchedulePasses kind passes) :=
  .ite (fun _ => answered_nothing) fun mode => (Taken.schedule _ _ (not_not.mp mode) (fun _ h => .inl h) (.inl le_rfl)
    (.inr (Nat.le_of_lt_succ passes.isLt))).answered

section
variable (config : st.config = some cfg)
include config

theorem Station.takeArm_answered : st.Answered (st.takeArm cfg kind) := by
  unfold takeArm
  refine .ite (fun _ => answered_nothing) fun mode => ?_
  split
  · exact answered_nothing
  · next conditions => exact (Taken.controller cfg config (Change.arm (not_not.mp mode) conditions).chain).answered

theorem Station.takeDisarm_answered : st.Answered (st.takeDisarm cfg kind) := by
  have idled (mode : st.ctl.mode = .armed ∨ st.ctl.mode = .held ∨ st.ctl.mode = .complete) :
      st.Answered ((st.enterIdle cfg).answer kind .ok []) :=
    (Taken.controller cfg config (Change.enterIdle (by tauto)).chain).answered
  unfold takeDisarm
  split
  · exact idled (.inl ‹_›)
  · exact idled (.inr (.inl ‹_›))
  · exact idled (.inr (.inr ‹_›))
  all_goals exact answered_nothing

theorem Station.takeStart_answered (position : Option (BitVec 32 × BitVec 48)) :
    st.Answered (st.takeStart cfg kind position) := by
  unfold takeStart
  refine .ite (fun _ => answered_nothing) fun mode => .ite (fun _ => answered_nothing) fun _ => ?_
  split
  · exact answered_nothing
  · exact (Taken.controller cfg config (Change.placeControl _ (.inl (not_not.mp mode))).chain).answered

theorem Station.takeHold_answered : st.Answered (st.takeHold cfg kind) := by
  unfold takeHold
  cases st.ctl.mode with
  | countdown | rampIn | playing | held => exact (Taken.controller cfg config (reportReason_change _ _ _).chain).answered
  | unconfigured | idle | armed | rampOutMoving | rampOutParked | ending | complete | tripped => exact answered_nothing

theorem Station.takeResume_answered : st.Answered (st.takeResume cfg kind) := by
  unfold takeResume
  refine .ite (fun _ => answered_nothing) fun meets => .ite (fun _ => answered_nothing) fun _ => ?_
  split
  · exact answered_nothing
  · exact (Taken.controller cfg config (Change.placeControl _ (.inr (by tauto))).chain).answered

theorem Station.takeAbort_answered : st.Answered (st.takeAbort cfg kind) :=
  .ite (fun _ => (Taken.controller cfg config (Change.takeTrip _ _).chain).answered) fun _ => answered_nothing

theorem Station.takeClearTrip_answered : st.Answered (st.takeClearTrip cfg kind) :=
  .ite (fun _ => answered_nothing) fun mode => .ite (fun _ => answered_nothing) fun _ =>
    (Taken.controller cfg config (Change.enterIdle (.inr (.inr (.inr (not_not.mp mode))))).chain).answered

end

theorem Station.takeAcknowledge_answered (reasons : BitVec 16) : st.Answered (st.takeAcknowledge kind reasons) :=
  .ite (fun _ => answered_nothing) fun _ => (Taken.acknowledge _).answered

theorem Station.takeSetLevel_answered (target : BitVec 16) : st.Answered (st.takeSetLevel kind target) := by
  unfold takeSetLevel
  split
  · exact answered_nothing
  · next r regs => exact .ite (fun _ => answered_nothing) fun _ => (Taken.setLevel r _ regs).answered

theorem Station.takeSideSend_answered (word : BitVec 32) : st.Answered (st.takeSideSend kind word) :=
  .ite (fun _ => answered_nothing) fun _ => .ite (fun _ => answered_nothing) fun room =>
    (Taken.sideSend word (Nat.not_le.mp room)).answered

theorem Station.takePeerRead_answered (number : BitVec 8) : st.Answered (st.takePeerRead kind number) := by
  have entry (o : Option PeerEntry) : st.Answered (match o with
      | none => st.answer kind .ok [0]
      | some e => st.answer kind .ok (1 :: e.body)) := by
    cases o <;> exact answered_nothing
  unfold takePeerRead
  split
  · simp only
    split
    · exact entry _
    · exact .ite (fun _ => answered_nothing) fun _ => entry _
  · exact answered_nothing

theorem Station.takeEventsClear_answered (events : BitVec 16) : st.Answered (st.takeEventsClear kind events) :=
  .ite (fun _ => answered_nothing) fun _ => (Taken.eventsClear _).answered

theorem Station.takeReportRate_answered (n : BitVec 8) : st.Answered (st.takeReportRate kind n) :=
  .ite (fun _ => answered_nothing) fun _ => (Taken.reportRate n.toNat _ fun h => (Bool.and_eq_true_iff.mp h).1).answered

theorem Station.runRequest_answered {f : ConfigRecord → Station} (h : ∀ cfg, st.config = some cfg → st.Answered (f cfg)) :
    st.Answered (st.runRequest kind f) := by
  unfold runRequest
  split
  · exact answered_nothing
  · exact h _ ‹_›

/-- Every request is taken and answered (R176, R177). -/
theorem Station.takeRequest_answered (st : Station) (r : Request) : st.Answered (st.takeRequest r) := by
  cases r with
  | identify | status | eventsRead | stationReset => exact answered_nothing
  | configure record => exact takeConfigure_answered record
  | segmentOpen id length expected => exact takeSegmentOpen_answered id length expected
  | segmentData id part samples => exact takeSegmentData_answered id part samples
  | segmentDiscard id => exact takeSegmentDiscard_answered id
  | segmentInfo id => exact takeSegmentInfo_answered id
  | playlistAppend id repeats wait => exact takePlaylistAppend_answered id repeats wait
  | playlistClear => exact takePlaylistClear_answered
  | playlistRead index => exact takePlaylistRead_answered index
  | schedulePasses passes => exact takeSchedulePasses_answered passes
  | arm => exact runRequest_answered fun _ config => takeArm_answered config
  | disarm => exact runRequest_answered fun _ config => takeDisarm_answered config
  | start position => exact runRequest_answered fun _ config => takeStart_answered config position
  | hold => exact runRequest_answered fun _ config => takeHold_answered config
  | resume => exact runRequest_answered fun _ config => takeResume_answered config
  | acknowledge reasons => exact takeAcknowledge_answered reasons
  | abort => exact runRequest_answered fun _ config => takeAbort_answered config
  | clearTrip => exact runRequest_answered fun _ config => takeClearTrip_answered config
  | setLevel target => exact takeSetLevel_answered target
  | sideSend word => exact takeSideSend_answered word
  | sideRead => exact Taken.sideRead.answered
  | peerRead number => exact takePeerRead_answered number
  | eventsClear events => exact takeEventsClear_answered events
  | reportRate n => exact takeReportRate_answered n

/-- A frame served is answered, refused or taken (R176). -/
theorem Station.serve_answered (st : Station) (f : HostFrame) : st.Answered (st.serve f) := by
  unfold serve
  split
  · exact answered_nothing
  · exact takeRequest_answered st _

end

/-! ### The turns of a command -/

/-- One turn of a command. -/
inductive Turn (st : Station) : Station → Prop where
  /-- A change within the configuration in force. -/
  | change (cfg : ConfigRecord) (config : st.config = some cfg) {b : Station} (change : Change cfg st b) : Turn st b
  /-- A request is taken. -/
  | take {b : Station} (taken : Taken st b) : Turn st b
  /-- The port goes on by itself. -/
  | port (p : HostPort) : Turn st { st with port := p }
  /-- The ESTOP line changes. -/
  | estopLine (active : Bool) : Turn st { st with estopLine := active }
  /-- Power-on, the loss of the supply and the RESET line (R193). -/
  | hardReset (power resetLine : Bool) : Turn st ({ st with power := power, resetLine := resetLine } : Station).hardReset
  /-- STATION-RESET takes effect (R194). -/
  | softReset : Turn st st.softReset

/-- A chain of turns. -/
abbrev Turns : Station → Station → Prop := Relation.ReflTransGen Turn

section
variable {cfg : ConfigRecord} {a b c st : Station}

/-- The parts of a station that no change within a configuration touches: the lines, the configuration, the Sample Store, the
Segment Table, the playlist with P, and the host port. -/
def Station.outside (st : Station) : Bool × Bool × Bool × StartKind × Option ConfigRecord × Store × Vector Segment 64 ×
    Vector Bool 64 × List Entry × Nat × HostPort :=
  (st.power, st.resetLine, st.estopLine, st.startKind, st.config, st.store, st.segments, st.cutLoadings, st.schedule.playlist,
    st.schedule.passes, st.port)

theorem Station.enterMode_outside (m : Mode) : (st.enterMode cfg m).outside = st.outside := by
  rw [enterMode_eq]
  rfl

theorem Station.takeReason_outside (r : HoldReason) (k : StationNo) : (st.takeReason cfg r k).outside = st.outside := by
  have started (x : Station) : (x.startHold r k).outside = x.outside := by
    unfold startHold
    simp only
    split <;> rfl
  unfold takeReason
  cases st.ctl.mode with
  | rampIn | playing | countdown => exact (started _).trans (enterMode_outside _)
  | rampOutMoving | rampOutParked | held | ending | complete | unconfigured | idle | armed | tripped => rfl

theorem Station.takeTrip_outside (cause : TripCause) (k : StationNo) : (st.takeTrip cfg cause k).outside = st.outside := by
  have entered (x : Station) : (x.enterMode cfg .tripped).outside = x.outside := enterMode_outside _
  unfold takeTrip
  split
  · simp only
    split <;> exact entered _
  · rfl

theorem Station.takeStepReport_outside (r : StepReport) : (st.takeStepReport cfg r).outside = st.outside := by
  cases r with
  | nothing | passEnd => rfl
  | waitPark =>
    show (st.takeWaitPark cfg).outside = _
    unfold takeWaitPark
    split
    · exact enterMode_outside _
    all_goals exact takeReason_outside _ _
  | endPark =>
    show (st.takeEndPark cfg).outside = _
    unfold takeEndPark
    split
    · exact enterMode_outside _
    · rfl

theorem Change.outside (h : Change cfg a b) : b.outside = a.outside := by
  cases h with
  | takeReason r k => exact Station.takeReason_outside r k
  | takeTrip cause k => exact Station.takeTrip_outside cause k
  | enterIdle mode =>
    refine (Station.enterMode_outside _).trans ?_
    unfold Station.dropGoAndResume
    split <;> rfl
  | step p position => exact Station.takeStepReport_outside _
  | arm | go | resume => exact Station.enterMode_outside _
  | expireCountdown => unfold Station.expireCountdown; split <;> [exact Station.enterMode_outside _; rfl]
  | endRampIn => unfold Station.endRampIn; split <;> [exact Station.enterMode_outside _; rfl]
  | endRampOut =>
    unfold Station.endRampOut
    split
    · cases a.ctl.mode with
      | rampOutMoving | rampOutParked | ending => exact Station.enterMode_outside _
      | unconfigured | idle | armed | countdown | rampIn | playing | held | complete | tripped => rfl
    · rfl
  | countDown => unfold Station.countDown; split <;> rfl
  | compute m r regs began =>
    unfold Station.computeCommand Station.noteClamp Station.noteRate
    simp only
    split_ifs <;> first | rfl | (split <;> rfl)
  | beginAttempt => unfold Station.beginAttempt; split <;> rfl
  | _ => rfl

theorem Changes.outside (h : Changes cfg a b) : b.outside = a.outside := by
  induction h with
  | refl => rfl
  | tail _ change ih => exact change.outside.trans ih

/-- Each part that is the same on both sides, by its name. -/
theorem Station.outside_eq (h : b.outside = a.outside) : b.config = a.config ∧ b.store = a.store ∧ b.segments = a.segments ∧
    b.cutLoadings = a.cutLoadings ∧ b.schedule.playlist = a.schedule.playlist ∧ b.schedule.passes = a.schedule.passes ∧
    b.port = a.port := by
  simp only [outside, Prod.mk.injEq] at h
  tauto

theorem Change.config (h : Change cfg a b) : b.config = a.config := (Station.outside_eq h.outside).1

theorem Changes.config (h : Changes cfg a b) : b.config = a.config := (Station.outside_eq (Changes.outside h)).1

theorem Changes.port (h : Changes cfg a b) : b.port = a.port := (Station.outside_eq (Changes.outside h)).2.2.2.2.2.2

theorem Changes.turns (h : Changes cfg a b) (config : a.config = some cfg) : Turns a b := by
  induction h with
  | refl => exact .refl
  | tail before change ih => exact ih.tail (.change cfg ((Changes.config before).trans config) change)

theorem Turns.ite {p : Prop} [Decidable p] (hb : p → Turns a b) (hc : ¬ p → Turns a c) : Turns a (if p then b else c) := by
  split
  · exact hb ‹_›
  · exact hc ‹_›

/-- What every turn keeps, a chain of them keeps. -/
theorem Turns.keeps {P : Station → Prop} (keeps : ∀ {a b}, P a → Turn a b → P b) (h : Turns a b) (ha : P a) : P b := by
  induction h with
  | refl => exact ha
  | tail _ turn ih => exact keeps ih turn

theorem Station.Answered.turns (h : a.Answered b) : Turns a b := by
  obtain ⟨taken, reply, take, rfl⟩ := h
  exact .tail (.single (.take take)) (.port _)

end

section
variable (st : Station)

theorem Station.serveWaiting_turns : Turns st st.serveWaiting := by
  unfold serveWaiting
  refine .ite (fun _ => .refl) fun _ => ?_
  split
  · exact .refl
  · exact .trans (.single (.port _)) (serve_answered _ _).turns

theorem Station.settlePort_turns : Turns st st.settlePort := by
  have taken : Turns st st.transmitterTake := by
    obtain ⟨p, h⟩ := transmitterTake_cases st
    exact h ▸ .single (.port p)
  exact (taken.trans (serveWaiting_turns _)).trans (serveWaiting_turns _)

theorem Station.frameCompletes_turns (f : HostFrame) : Turns st (st.frameCompletes f) := by
  have joined : Turns st (st.joinBuffers f) := by
    obtain ⟨p, h⟩ := joinBuffers_cases st f
    exact h ▸ .single (.port p)
  exact joined.trans (settlePort_turns _)

theorem Station.hostRequest_turns (r : Request) : Turns st (st.hostRequest r) :=
  .ite (fun _ => .ite (fun _ => (takeRequest_answered st r).turns) fun _ => frameCompletes_turns st _) fun _ => .refl

theorem Station.takeHostByte_turns (b : Byte) : Turns st (st.takeHostByte b) := by
  unfold takeHostByte
  split
  · exact .ite (fun _ => .single (.port _)) fun _ => .single (.port _)
  · split
    · exact .single (.port _)
    · exact .trans (.single (.port _)) (frameCompletes_turns _ _)

theorem Station.frameSent_turns : Turns st st.frameSent := by
  unfold frameSent
  split
  · exact .refl
  · exact .ite (fun _ => .single .softReset) fun _ => .trans (.single (.port _)) (settlePort_turns _)

/-- The partial-frame timer changes nothing but the port. -/
theorem Station.partialTick_cases : ∃ p : HostPort, st.partialTick = { st with port := p } := by
  unfold partialTick
  simp only
  split_ifs <;> exact ⟨_, rfl⟩

theorem Station.reportFalls_cases : ∃ p : HostPort, st.reportFalls = { st with port := p } := by
  obtain ⟨p, h⟩ := transmitterTake_cases
    { st with port := { st.port with reportTimer := some 0, reportPending := true } }
  exact ⟨p, h⟩

/-- The report timer changes nothing but the port. -/
theorem Station.reportTick_cases : ∃ p : HostPort, st.reportTick = { st with port := p } := by
  unfold reportTick
  split_ifs
  · exact ⟨_, rfl⟩
  · exact reportFalls_cases st
  · exact ⟨_, rfl⟩
  · exact ⟨_, rfl⟩

theorem Station.partialTick_turns : Turns st st.partialTick := by
  obtain ⟨p, h⟩ := partialTick_cases st
  exact h ▸ .single (.port p)

theorem Station.update_turns (inA inB : BitVec 48) : Turns st (st.update inA inB) := by
  unfold update
  refine .ite (fun _ => ?_) fun _ => .refl
  split
  · exact partialTick_turns st
  · next cfg config =>
    rw [configuredUpdate_eq]
    obtain ⟨p, h⟩ := reportTick_cases (st.blocksUpdate cfg inA inB).partialTick
    exact h ▸ .tail (((blocksUpdate_changes st cfg inA inB).turns config).trans (partialTick_turns _)) (.port p)

end

/-! ### What a command does -/

/-- Nothing, or a chain of changes within the configuration in force. -/
def Station.Within (st b : Station) : Prop := b = st ∨ ∃ cfg, st.config = some cfg ∧ Changes cfg st b

/-- What a command does to the station, by the operation that gives it its meaning. -/
inductive Effect (st : Station) : Station → Prop where
  /-- An event of the blocks. -/
  | within {b : Station} (h : st.Within b) : Effect st b
  /-- A request arrives (R175, R176). -/
  | request (r : Request) : Effect st (st.hostRequest r)
  /-- A frame completes at the receiver (R175). -/
  | frameCompletes (f : HostFrame) : Effect st (st.frameCompletes f)
  /-- A byte comes (R172, R173). -/
  | hostByte (byte : Byte) : Effect st (st.takeHostByte byte)
  /-- The partial-frame timer ends by itself (R174). -/
  | discardPartial : Effect st st.discardPartial
  /-- The transmitter has sent its frame (R178). -/
  | frameSent : Effect st st.frameSent
  /-- The report timer ends by itself (R185). -/
  | reportFalls (due : st.port.reportComesDue = true) :
      Effect st ({ st with port := { st.port with reportTaken := true } } : Station).reportFalls
  /-- An update of the blocks, and of the port's timers (R38, R140, R174, R185). -/
  | update (inA inB : BitVec 48) : Effect st (st.update inA inB)
  /-- The ESTOP line changes, and the blocks take it (R166). -/
  | estopLine (active : Bool) {b : Station} (h : ({ st with estopLine := active } : Station).Within b) : Effect st b
  /-- Power-on, the loss of the supply and the RESET line (R193). -/
  | hardReset (power resetLine : Bool) : Effect st ({ st with power := power, resetLine := resetLine } : Station).hardReset
  /-- STATION-RESET takes effect (R194). -/
  | softReset : Effect st st.softReset

section
variable {st b : Station}

theorem Effect.nothing : Effect st st := .within (.inl rfl)

theorem Effect.ite {p : Prop} [Decidable p] (hb : p → Effect st b) : Effect st (if p then b else st) := by
  split
  · exact hb ‹_›
  · exact .nothing

/-- An event of a running, configured station makes the changes of its effect, and at any other station it makes none. -/
theorem Station.whenConfigured_within {f : ConfigRecord → Station → Station} (h : ∀ cfg, Changes cfg st (f cfg st)) :
    st.Within (st.whenConfigured f) := by
  unfold whenConfigured
  split
  · exact .inr ⟨_, ‹_›, h _⟩
  · exact .inl rfl

theorem Effect.whenConfigured {f : ConfigRecord → Station → Station} (h : ∀ cfg, Changes cfg st (f cfg st)) :
    Effect st (st.whenConfigured f) := .within (Station.whenConfigured_within h)

theorem Station.withAttempt_changes {cfg : ConfigRecord} {f : Attempt → Station}
    (h : ∀ a, st.link.attempt = some a → Changes cfg st (f a)) : Changes cfg st (st.withAttempt f) := by
  unfold withAttempt
  split
  · exact .refl
  · exact h _ ‹_›

theorem Station.Within.turns (h : st.Within b) : Turns st b := by
  obtain rfl | ⟨cfg, config, changes⟩ := h
  · exact .refl
  · exact Changes.turns changes config

theorem Effect.turns (h : Effect st b) : Turns st b := by
  cases h with
  | within h => exact h.turns
  | request r => exact Station.hostRequest_turns st r
  | frameCompletes f => exact Station.frameCompletes_turns st f
  | hostByte byte => exact Station.takeHostByte_turns st byte
  | discardPartial => exact .single (.port _)
  | frameSent => exact Station.frameSent_turns st
  | reportFalls =>
    obtain ⟨p, h⟩ := Station.reportFalls_cases { st with port := { st.port with reportTaken := true } }
    exact h ▸ .single (.port p)
  | update inA inB => exact Station.update_turns st inA inB
  | estopLine active h => exact .head (.estopLine active) h.turns
  | hardReset power resetLine => exact .single (.hardReset power resetLine)
  | softReset => exact .single .softReset

end

/-- Every command completes with its effect, and leaves the queue. -/
theorem exec_effect (s : State) (c : Instr) : ∃ st, exec c s = .next (s.withStation st) ∧ Effect s.station st := by
  have whenConfigured := @Effect.whenConfigured s.station
  cases c with
  | identify | configure | segmentOpen | segmentData | segmentDiscard | segmentInfo | playlistAppend | playlistClear
  | playlistRead | schedulePasses | arm | disarm | start | holdRequest | resumeRequest | acknowledge | abort | clearTrip
  | setLevel | sideSend | sideRead | status | peerRead | eventsRead | eventsClear | reportRate | stationReset =>
    exact ⟨_, rfl, .request _⟩
  | stationResetEffect => exact ⟨_, rfl, .ite fun _ => .softReset⟩
  | hostFrameRefused frame => exact ⟨_, rfl, .ite fun _ => .frameCompletes frame⟩
  | hostByte b => exact ⟨_, rfl, .ite fun _ => .hostByte b⟩
  | partialFrameTimeout => exact ⟨_, rfl, .ite fun _ => .discardPartial⟩
  | transmitterFrameSent => exact ⟨_, rfl, .ite fun _ => .frameSent⟩
  | reportDue =>
    refine ⟨_, rfl, ?_⟩
    show Effect s.station (s.station.whenConfigured _)
    unfold Station.whenConfigured
    split
    · exact .ite fun due => .reportFalls (Bool.and_eq_true_iff.mp due).1
    · exact .nothing
  | update inA inB => exact ⟨_, rfl, .update inA inB⟩
  | trackCountReached =>
    exact ⟨_, rfl, whenConfigured fun cfg => .ite (fun _ => Station.trackReached_changes _ cfg) fun _ => .refl⟩
  | driveSilence => exact ⟨_, rfl, whenConfigured fun cfg => Station.checkSilence_changes _ cfg⟩
  | countdownExpiry => exact ⟨_, rfl, whenConfigured fun _ => Change.expireCountdown.chain⟩
  | endOfRampIn => exact ⟨_, rfl, whenConfigured fun _ => Change.endRampIn.chain⟩
  | endOfRampOut => exact ⟨_, rfl, whenConfigured fun _ => Change.endRampOut.chain⟩
  | peerStale number =>
    exact ⟨_, rfl, whenConfigured fun cfg => .ite (fun _ => Station.tickAhead_changes _ cfg) fun _ => .refl⟩
  | beatInstant =>
    exact ⟨_, rfl, whenConfigured fun cfg => .ite (fun _ => Station.beatWork_changes _ cfg) fun _ =>
      .ite (fun _ => (Station.tickAhead_changes _ cfg).trans (Station.beatWork_changes _ cfg)) fun _ => .refl⟩
  | idlePoint => exact ⟨_, rfl, whenConfigured fun cfg => Station.idlePoint_changes _ cfg⟩
  | arbitrationLost => exact ⟨_, rfl, whenConfigured fun _ => Station.withAttempt_changes fun _ _ => Change.endAttempt.chain⟩
  | attemptAborted =>
    exact ⟨_, rfl, whenConfigured fun cfg => Station.withAttempt_changes fun _ _ => Station.abortAttempt_changes _ cfg⟩
  | consecutiveAbortLimit =>
    exact ⟨_, rfl, whenConfigured fun cfg => Station.withAttempt_changes fun _ _ =>
      .ite (fun _ => Change.stopAborted.chain.trans (Station.abortLimit_changes _ cfg)) fun _ => .refl⟩
  | attemptCompleted =>
    exact ⟨_, rfl, whenConfigured fun _ => Station.withAttempt_changes fun a attempt => (Change.completeAttempt a attempt).chain⟩
  | frameDropped frame =>
    refine ⟨_, rfl, whenConfigured fun cfg => ?_⟩
    split
    · exact Station.badFrameEnds_changes _ cfg _
    · exact Station.receive_changes _ cfg _ _
  | beatFrame | goFrame | holdFrame | resumeFrame | tripFrame =>
    exact ⟨_, rfl, whenConfigured fun cfg => Station.receive_changes _ cfg _ _⟩
  | estopActive =>
    exact ⟨_, rfl, .estopLine true (Station.whenConfigured_within fun cfg =>
      .ite (fun _ => .refl) fun _ => Station.estopRises_changes _ cfg)⟩
  | estopInactive =>
    exact ⟨_, rfl, .estopLine false (Station.whenConfigured_within fun _ => (Change.supAside _).chain)⟩
  | powerOn | resetLineActive | powerOff => exact ⟨_, rfl, .hardReset _ _⟩
  | resetLineInactive => exact ⟨_, rfl, .ite fun _ => .hardReset _ _⟩

/-- What every command's effect keeps of the station, every step keeps. -/
theorem step_keeps_of_effect {P : Station → Prop} (keeps : ∀ {a b}, P a → Effect a b → P b) {s t : State} (h : P s.station)
    (stepped : step s = .next t) : P t.station :=
  step_keeps (P := P) (fun s c hs => by
    obtain ⟨st, executed, effect⟩ := exec_effect s c
    exact ⟨st, executed, keeps hs effect⟩) h stepped

/-- What every turn keeps of the station, every step keeps. -/
theorem step_keeps_of_turn {P : Station → Prop} (keeps : ∀ {a b}, P a → Turn a b → P b) {s t : State} (h : P s.station)
    (stepped : step s = .next t) : P t.station :=
  step_keeps_of_effect (P := P) (fun ha effect => effect.turns.keeps keeps ha) h stepped

end Sys2Proof.Machine
end
section
/-! THE STATION CONTROLLER'S INVARIANT (R62 to R67, R78, R90, R96). It speaks of the configuration and of the Station
Controller alone, so a turn that leaves both alone carries it over as it stands; the others enter a state, and what the
invariant asks of a state entered is said once. -/

namespace Sys2Proof.Machine

section
variable {st : Station} {cfg : ConfigRecord}

/-- A state entered with a configuration is in order if the set, the hold record and the trip record are those it asks for. -/
theorem Station.enterMode_controllerOk {m : Mode} (config : st.config.isSome) (configured : m ≠ .unconfigured)
    (unheld : m.isUnheld → st.ctl.reasons = 0#10) (holding : m.isHolding → st.ctl.holdRecord.isSome)
    (tripped : m = .tripped → st.ctl.tripRecord.isSome) : (st.enterMode cfg m).ControllerOk := by
  rw [enterMode_eq]
  refine ⟨rfl, ?_, ?_, ?_, unheld, holding, tripped⟩
  · simp [configured, Option.isSome_iff_ne_none.mp config]
  · simp
  · simp only
    split <;> decide

/-- The start of a hold records it, and leaves the rest of the Station Controller and the configuration. -/
theorem Station.startHold_ctl (r : HoldReason) (k : StationNo) : ∃ record : HoldRecord,
    (st.startHold r k).ctl = { st.ctl with holdRecord := some record } ∧ (st.startHold r k).config = st.config := by
  unfold startHold
  simp only
  split <;> exact ⟨_, rfl, rfl⟩

/-- A hold enters a state that asks for a hold record alone. -/
theorem Station.hold_controllerOk {m : Mode} (config : st.config.isSome) (holding : m.isHolding = true) (r : HoldReason)
    (k : StationNo) : ((st.enterMode cfg m).startHold r k).ControllerOk := by
  obtain ⟨record, ctl, kept⟩ := startHold_ctl (st := st.enterMode cfg m) r k
  have entered : ({ (st.enterMode cfg m) with ctl := { (st.enterMode cfg m).ctl with holdRecord := some record } } :
      Station).ControllerOk := by
    have := enterMode_controllerOk (st := { st with ctl := { st.ctl with holdRecord := some record } }) (cfg := cfg) (m := m)
      config (by cases m <;> simp_all [Mode.isHolding]) (by cases m <;> simp_all [Mode.isHolding, Mode.isUnheld]) (fun _ => rfl)
      (by cases m <;> simp_all [Mode.isHolding])
    rw [enterMode_eq] at this ⊢
    exact this
  unfold Station.ControllerOk at entered ⊢
  rw [ctl, kept]
  exact entered

variable (h : st.ControllerOk)
include h

/-- A reason that joins the set of a state with a hold begun leaves the invariant. -/
theorem Station.ControllerOk.setReasons (set : ReasonSet) (keeps : st.ctl.mode.isUnheld → set = 0#10) :
    ({ st with ctl := { st.ctl with reasons := set } } : Station).ControllerOk := by
  obtain ⟨permit, config, countdown, range, -, holding, tripped⟩ := h
  exact ⟨permit, config, countdown, range, keeps, holding, tripped⟩

theorem Station.ControllerOk.takeReason (config : st.config.isSome) (r : HoldReason) (k : StationNo) :
    (st.takeReason cfg r k).ControllerOk := by
  have joins (hm : st.ctl.mode.isUnheld = false) : (st.insertReason r).ControllerOk := h.setReasons _ (by simp [hm])
  unfold Station.takeReason
  cases hm : st.ctl.mode with
  | rampIn | playing => exact hold_controllerOk (st := st.insertReason r) config (by split <;> rfl) r k
  | countdown => exact hold_controllerOk (st := st.insertReason r) config rfl r k
  | rampOutMoving | rampOutParked | held | ending | complete => exact joins (by rw [hm]; rfl)
  | unconfigured | idle | armed | tripped => exact h

theorem Station.ControllerOk.takeTrip (config : st.config.isSome) (cause : TripCause) (k : StationNo) :
    (st.takeTrip cfg cause k).ControllerOk := by
  have tripped {x : Station} (hx : x.config.isSome) (record : x.ctl.tripRecord.isSome) :
      (x.enterMode cfg .tripped).ControllerOk :=
    enterMode_controllerOk hx (by decide) (by simp [Mode.isUnheld]) (by simp [Mode.isHolding]) fun _ => record
  unfold Station.takeTrip
  split
  · simp only
    split <;> exact tripped config rfl
  · exact h

/-- A park: WAIT is taken as a reason, and a moving RAMP-OUT becomes a parked one; the end enters ENDING (R31, R32). -/
theorem Station.ControllerOk.takeStepReport (config : st.config.isSome) (r : StepReport) :
    (st.takeStepReport cfg r).ControllerOk := by
  cases r with
  | nothing | passEnd => exact h
  | waitPark =>
    show (st.takeWaitPark cfg).ControllerOk
    unfold Station.takeWaitPark
    split
    · next hm =>
      obtain ⟨-, -, -, -, -, holding, -⟩ := h
      exact enterMode_controllerOk config (by decide) (by simp [Mode.isUnheld]) (fun _ => holding (by rw [hm]; rfl))
        (by simp)
    all_goals exact h.takeReason config _ _
  | endPark =>
    show (st.takeEndPark cfg).ControllerOk
    unfold Station.takeEndPark
    split
    · exact enterMode_controllerOk config (by decide) (by simp [Mode.isUnheld]) (by simp [Mode.isHolding]) (by simp)
    · exact h

/-- The set is empty in every state before a hold. -/
theorem Station.ControllerOk.reasons_empty (hm : st.ctl.mode.isUnheld = true) : st.ctl.reasons = 0#10 := h.2.2.2.2.1 hm

theorem Station.ControllerOk.expireCountdown (config : st.config.isSome) : (st.expireCountdown cfg).ControllerOk := by
  unfold Station.expireCountdown
  split
  · next expired =>
    exact enterMode_controllerOk config (by decide) (fun _ => h.reasons_empty (by rw [expired.1]; rfl)) (by simp [Mode.isHolding])
      (by simp)
  · exact h

theorem Station.ControllerOk.endRampIn (config : st.config.isSome) : (st.endRampIn cfg).ControllerOk := by
  unfold Station.endRampIn
  split
  · next ended =>
    exact enterMode_controllerOk config (by decide) (fun _ => h.reasons_empty (by rw [ended.2]; rfl)) (by simp [Mode.isHolding])
      (by simp)
  · exact h

theorem Station.ControllerOk.endRampOut (config : st.config.isSome) : (st.endRampOut cfg).ControllerOk := by
  have heldFrom (hm : st.ctl.mode.isHolding = true) : (st.enterMode cfg .held).ControllerOk := by
    obtain ⟨-, -, -, -, -, holding, -⟩ := h
    exact enterMode_controllerOk config (by decide) (by simp [Mode.isUnheld]) (fun _ => holding hm) (by simp)
  unfold Station.endRampOut
  split
  · cases hm : st.ctl.mode with
    | rampOutMoving | rampOutParked => exact heldFrom (by rw [hm]; rfl)
    | ending =>
      exact enterMode_controllerOk config (by decide) (by simp [Mode.isUnheld]) (by simp [Mode.isHolding]) (by simp)
    | unconfigured | idle | armed | countdown | rampIn | playing | held | complete | tripped => exact h
  · exact h

theorem Station.ControllerOk.countDown : st.countDown.ControllerOk := by
  unfold Station.countDown
  split
  · obtain ⟨permit, config, countdown, range, unheld, holding, tripped⟩ := h
    refine ⟨permit, config, by simpa using countdown, ?_, unheld, holding, tripped⟩
    cases hc : st.ctl.countdown with
    | none => simp
    | some n => simp [hc] at range ⊢; omega
  · exact h

theorem Station.ControllerOk.change {b : Station} (config : st.config = some cfg) (c : Change cfg st b) : b.ControllerOk := by
  have configured : st.config.isSome := by simp [config]
  cases c with
  | takeReason r k => exact h.takeReason configured r k
  | takeTrip cause k => exact h.takeTrip configured cause k
  | enterIdle mode =>
    refine enterMode_controllerOk ?_ (by decide) (fun _ => ?_) (by simp [Mode.isHolding]) (by simp) <;>
      unfold Station.dropGoAndResume <;> split <;> first | exact configured | rfl
  | arm mode =>
    exact enterMode_controllerOk configured (by decide) (fun _ => h.reasons_empty (by rw [mode]; rfl)) (by simp [Mode.isHolding])
      (by simp)
  | go fp pass whole mode =>
    exact enterMode_controllerOk configured (by decide) (fun _ => h.reasons_empty (by rw [mode]; rfl)) (by simp [Mode.isHolding])
      (by simp)
  | resume fp pass whole mode fits unlatched =>
    exact enterMode_controllerOk configured (by decide) (fun _ => unlatched) (by simp [Mode.isHolding]) (by simp)
  | expireCountdown => exact h.expireCountdown configured
  | endRampIn => exact h.endRampIn configured
  | endRampOut => exact h.endRampOut configured
  | countDown => exact h.countDown
  | step p => exact ControllerOk.takeStepReport (st := st.setPosition (st.singleStep p).1) h configured _
  | compute m r =>
    unfold Station.computeCommand Station.noteClamp Station.noteRate
    simp only
    split_ifs <;> first | exact h | (split <;> exact h)
  | beginAttempt =>
    unfold Station.beginAttempt
    split <;> exact h
  | _ => exact h

theorem Station.ControllerOk.take {b : Station} (t : Taken st b) : b.ControllerOk := by
  cases t with
  | controller cfg config changes =>
    have kept : b.ControllerOk ∧ b.config = some cfg := by
      refine changes.keeps (P := fun x => x.ControllerOk ∧ x.config = some cfg) ?_ ⟨h, config⟩
      exact fun hx change => ⟨hx.1.change hx.2 change, change.config.trans hx.2⟩
    exact kept.1
  | configure cfg =>
    have idle {x : Station} (config : x.config.isSome) (reasons : x.ctl.reasons = 0#10) : (x.enterMode cfg .idle).ControllerOk :=
      enterMode_controllerOk config (by decide) (fun _ => reasons) (by simp [Mode.isHolding]) (by simp)
    unfold Station.configureNow
    simp only
    split
    · refine ControllerOk.takeTrip ?_ rfl _ _
      exact idle rfl rfl
    · exact idle rfl rfl
  | segmentOpen | segmentDiscard => 
    unfold Station.setSegment
    split <;> first | exact h | (unfold Station.setCut; split <;> exact h)
  | segmentData => 
    unfold Station.setSegment
    split <;> exact h
  | acknowledge left => exact h.setReasons _ fun hm => by simp [h.reasons_empty hm]
  | _ => exact h

end

theorem Station.reset_controllerOk : Station.reset.ControllerOk := by decide

theorem Station.ControllerOk.turn {a b : Station} (h : a.ControllerOk) (turn : Turn a b) : b.ControllerOk := by
  cases turn with
  | change cfg config change => exact h.change config change
  | take taken => exact h.take taken
  | port | estopLine => exact h
  | hardReset | softReset => exact Station.reset_controllerOk

/-- Settles O52: every turn of a command keeps the Station Controller in order. -/
theorem stepKeepsController : Obligations.StepKeepsController := by
  unfold Obligations.StepKeepsController
  exact fun _ _ h stepped => step_keeps_of_turn (P := Station.ControllerOk) (fun h turn => h.turn turn) h stepped

end Sys2Proof.Machine
end
section
/-! THE SEGMENT RECORDS AND THE STORE (R1 to R13, R19). A record is found under its id, and a record that changes leaves the
others. Three requests write one record, and a reset maps them all; nothing else touches them. -/

namespace Sys2Proof.Machine

/-! ### The record of an id -/

section
variable {st : Station} {id : Nat}

/-- A segment id 1..64 is one above an index of the table. -/
theorem exists_index_of_isSegmentId (h : isSegmentId id = true) : ∃ k : Fin 64, id = k.val + 1 := by
  obtain ⟨low, high⟩ := (isSegmentId_eq_true_iff id).mp h
  exact ⟨⟨id - 1, by omega⟩, by simp only; omega⟩

theorem Station.segment_succ (k : Fin 64) : st.segment (k.val + 1) = st.segments[k] := by
  simp [segment]

theorem Station.setSegment_succ (k : Fin 64) (r : Segment) :
    st.setSegment (k.val + 1) r = { st with segments := st.segments.set k r } := by
  simp [setSegment, Vector.setIfInBounds, Array.setIfInBounds, Vector.set]

/-- A written record is read back under its id, and leaves the record of every other. -/
theorem Station.segment_setSegment (h : isSegmentId id = true) (r : Segment) (other : Nat) :
    (st.setSegment id r).segment other = if other = id then r else st.segment other := by
  obtain ⟨k, rfl⟩ := exists_index_of_isSegmentId h
  rw [setSegment_succ]
  rcases other with _ | n
  · simp [segment]
  · by_cases hn : n < 64
    · have := segment_succ (st := st) ⟨n, hn⟩
      have written := segment_succ (st := { st with segments := st.segments.set k r }) ⟨n, hn⟩
      simp only [Fin.getElem_fin] at this written
      rw [this, written, Vector.getElem_set]
      simp [eq_comm]
    · have : n ≠ k.val := by omega
      simp [segment, hn, this]

/-- An id without a record reads as EMPTY. -/
theorem Station.segment_of_not_isSegmentId (h : isSegmentId id = false) : st.segment id = .empty := by
  have := (isSegmentId_eq_true_iff id).not.mp (by simp [h])
  unfold segment
  split
  · rfl
  · rw [Vector.getElem?_eq_none (by omega)]
    rfl

/-- No record is LOADING where none is found. -/
theorem Station.loadingId_eq_none_iff : st.loadingId = none ↔ ∀ k : Fin 64, st.segments[k].isLoading = false := by
  simp only [loadingId, List.find?_eq_none, List.mem_map, List.mem_range, forall_exists_index, and_imp]
  constructor
  · intro h k
    simpa [segment_succ] using h (k.val + 1) k.val k.isLt rfl
  · rintro h _ n hn rfl
    simpa only [← segment_succ, Bool.not_eq_true] using h ⟨n, hn⟩

theorem Station.runFree_iff {first count : Nat} : st.runFree first count = true ↔
    first + count ≤ pageTotal ∧ ∀ k : Fin 64, st.segments[k].overlaps first count = false := by
  simp only [runFree, Bool.and_eq_true, decide_eq_true_eq, Vector.all_eq_true, Bool.not_eq_true']
  exact and_congr_right fun _ => ⟨fun h k => h k.val k.isLt, fun h i hi => h ⟨i, hi⟩⟩

theorem Station.firstFit_runFree {first count : Nat} (h : st.firstFit count = some first) : st.runFree first count = true := by
  unfold firstFit at h
  exact List.find?_some (p := fun f => st.runFree f count) h

end

/-! ### Page runs apart (R4) -/

theorem Segment.apart_iff {x y : Segment} : x.apart y = true ↔ ∀ a b, x.body? = some a → y.body? = some b →
    b.firstPage + b.pageCount ≤ a.firstPage ∨ a.firstPage + a.pageCount ≤ b.firstPage := by
  unfold Segment.apart Segment.overlaps
  cases x.body? with
  | none => simp
  | some a =>
    cases y.body? with
    | none => simp
    | some b => simp; omega

theorem Segment.apart_comm {x y : Segment} (h : x.apart y = true) : y.apart x = true :=
  apart_iff.mpr fun a b ha hb => (apart_iff.mp h b a hb ha).symm

theorem Segment.empty_apart (y : Segment) : Segment.empty.apart y = true := rfl

/-- Runs apart stay so when the records change and their pages do not. -/
theorem Segment.apart_of_pages {x x' y : Segment} {b b' : SegmentBody} (h : x.apart y = true) (old : x.body? = some b)
    (new : x'.body? = some b') (first : b'.firstPage = b.firstPage) (count : b'.pageCount = b.pageCount) : x'.apart y = true := by
  refine apart_iff.mpr fun a c ha hc => ?_
  obtain rfl := Option.some.inj (new.symm.trans ha)
  rw [first, count]
  exact apart_iff.mp h b c old hc

/-! ### One record written -/

section
variable {st : Station}

/-- A record may be written that is legal, apart from every other, and LOADING only if no other is. -/
theorem Station.SegmentsOk.set (h : st.SegmentsOk) (k : Fin 64) {r : Segment} (legal : r.legal = true)
    (apart : ∀ j, j ≠ k → r.apart st.segments[j] = true)
    (alone : r.isLoading = true → ∀ j, j ≠ k → st.segments[j].isLoading = false) :
    ({ st with segments := st.segments.set k r } : Station).SegmentsOk := by
  obtain ⟨legals, aparts, alones⟩ := h
  have read (i : Fin 64) : (st.segments.set k r)[i] = if i = k then r else st.segments[i] := by
    simp only [Fin.getElem_fin, Vector.getElem_set, Fin.ext_iff, eq_comm]
  refine ⟨fun i => ?_, fun i j hij => ?_, fun i j hij => ?_⟩ <;> simp only [read]
  · split
    · exact legal
    · exact legals i
  · split
    · next hi => rw [if_neg (hi ▸ hij.symm)]; exact apart j (hi ▸ hij.symm)
    · next hi =>
      split
      · exact Segment.apart_comm (apart i hi)
      · exact aparts i j hij
  · split
    · next hi =>
      rw [if_neg (hi ▸ hij.symm)]
      rintro ⟨hr, hj⟩
      exact absurd hj (by rw [alone hr j (hi ▸ hij.symm)]; decide)
    · next hi =>
      split
      · rintro ⟨hi', hr⟩
        exact absurd hi' (by rw [alone hr i hi]; decide)
      · exact alones i j hij

/-- R7: the record opened takes free pages, and is the only one LOADING. -/
theorem Station.SegmentsOk.open (h : st.SegmentsOk) (k : Fin 64) {body : SegmentBody} (idle : st.loadingId = none)
    (long : 16 ≤ body.length) (fits : body.length ≤ storeSize) (count : body.pageCount = ceilDiv body.length pageSize)
    (free : st.runFree body.firstPage body.pageCount = true) :
    ({ st with segments := st.segments.set k (.loading body 0 0) } : Station).SegmentsOk := by
  obtain ⟨inStore, unused⟩ := runFree_iff.mp free
  refine h.set k ?_ (fun j _ => ?_) fun _ j _ => loadingId_eq_none_iff.mp idle j
  · simp [Segment.legal, SegmentBody.fits, long, fits, count ▸ inStore, count, show 0 < body.length by omega]
  · show (!st.segments[j].overlaps body.firstPage body.pageCount) = true
    rw [unused j]
    rfl

theorem afterPart_body? (b : SegmentBody) (m next : Nat) (samples : List Sample) :
    (afterPart b m next samples).body? = some { b with computed := checksum b.computed samples } := by
  unfold afterPart
  simp only
  split
  · rfl
  · split <;> rfl

/-- R9, R10: the record after a part is legal, since a part is a whole one or the last. -/
theorem afterPart_legal {b : SegmentBody} {m next : Nat} {samples : List Sample} (h : (Segment.loading b m next).legal = true)
    (whole : m + samples.length = b.length ∨ samples.length = 48) : (afterPart b m next samples).legal = true := by
  simp only [Segment.legal, Bool.and_eq_true, decide_eq_true_eq, beq_iff_eq] at h
  obtain ⟨⟨fits, -⟩, received⟩ := h
  unfold afterPart
  simp only
  split
  · next more =>
    simp only [Segment.legal, Bool.and_eq_true, decide_eq_true_eq, beq_iff_eq]
    exact ⟨⟨fits, more⟩, by omega⟩
  · split
    · next equal => exact Bool.and_eq_true_iff.mpr ⟨fits, beq_iff_eq.mpr equal⟩
    · next differ => exact Bool.and_eq_true_iff.mpr ⟨fits, bne_iff_ne.mpr differ⟩

/-- R9, R10: a part keeps the pages of its record. -/
theorem Station.SegmentsOk.part (h : st.SegmentsOk) (k : Fin 64) {b : SegmentBody} {m next : Nat} {samples : List Sample}
    (loading : st.segments[k] = .loading b m next) (whole : m + samples.length = b.length ∨ samples.length = 48) :
    ({ st with segments := st.segments.set k (afterPart b m next samples) } : Station).SegmentsOk := by
  obtain ⟨legals, aparts, alones⟩ := id h
  refine h.set k (afterPart_legal (loading ▸ legals k) whole) (fun j hj => ?_) fun _ j hj => ?_
  · exact Segment.apart_of_pages (b := b) (loading ▸ aparts k j hj.symm) rfl (afterPart_body? b m next samples) rfl rfl
  · have := alones k j hj.symm
    rw [loading] at this
    simpa [Segment.isLoading] using this

/-- R19: what a STATION-RESET keeps of the records is legal, apart, and nowhere LOADING. -/
theorem Station.SegmentsOk.softReset (h : st.SegmentsOk) : st.softReset.SegmentsOk := by
  obtain ⟨legals, aparts, -⟩ := h
  have read (i : Fin 64) : st.softReset.segments[i] = st.segments[i].afterSoftReset := Vector.getElem_map _ i.isLt
  have kept (x : Segment) : x.afterSoftReset = .empty ∨ x.afterSoftReset = x := by cases x <;> simp [Segment.afterSoftReset]
  have unloaded (x : Segment) : x.afterSoftReset.isLoading = false := by cases x <;> rfl
  refine ⟨fun i => ?_, fun i j hij => ?_, fun i j hij => ?_⟩ <;> simp only [read]
  · rcases kept st.segments[i] with hi | hi <;> rw [hi]
    · rfl
    · exact legals i
  · rcases kept st.segments[i] with hi | hi <;> rw [hi]
    · exact Segment.empty_apart _
    · rcases kept st.segments[j] with hj | hj <;> rw [hj]
      · exact Segment.apart_comm (Segment.empty_apart _)
      · exact aparts i j hij
  · simp [unloaded]

theorem Station.hardReset_segmentsOk (st : Station) : st.hardReset.SegmentsOk := by
  have read (i : Fin 64) : st.hardReset.segments[i] = .empty := Vector.getElem_replicate i.isLt
  refine ⟨fun i => ?_, fun i j _ => ?_, fun i j _ => ?_⟩ <;> simp [read, Segment.legal, Segment.apart, Segment.body?, Segment.isLoading]

end

section
variable {st b : Station}

/-- CONFIGURE leaves the records, the store and the Schedule, enters IDLE and has no position (R37, R189). -/
theorem Station.configureNow_storage (st : Station) (cfg : ConfigRecord) :
    (st.configureNow cfg).segments = st.segments ∧ (st.configureNow cfg).store = st.store ∧
    (st.configureNow cfg).schedule = st.schedule ∧ (st.configureNow cfg).engine.position = none ∧
    (st.configureNow cfg).ctl.mode = .idle := by
  unfold Station.configureNow Station.estopRises Station.takeTrip
  simp only [enterMode_eq]
  split <;> simp [Mode.isPermit, ReplayEngine.reset]

theorem Station.SegmentsOk.of_same (h : st.SegmentsOk) (segments : b.segments = st.segments) : b.SegmentsOk := by
  unfold Station.SegmentsOk at *
  rw [segments]
  exact h

theorem Station.SegmentsOk.take (h : st.SegmentsOk) (t : Taken st b) : b.SegmentsOk := by
  cases t with
  | controller cfg config changes => exact h.of_same (outside_eq (Changes.outside changes)).2.2.1
  | configure cfg => exact h.of_same (configureNow_storage st cfg).1
  | segmentOpen id body segmentId empty idle long fits count free =>
    obtain ⟨k, rfl⟩ := exists_index_of_isSegmentId segmentId
    rw [setSegment_succ]
    exact h.open k idle long fits count (firstFit_runFree free)
  | segmentData id body m next samples events segmentId loading within whole =>
    obtain ⟨k, rfl⟩ := exists_index_of_isSegmentId segmentId
    rw [setSegment_succ]
    exact h.part k ((segment_succ k).symm.trans loading) whole
  | segmentDiscard id cut segmentId =>
    obtain ⟨k, rfl⟩ := exists_index_of_isSegmentId segmentId
    have emptied := h.set k (r := .empty) rfl (fun _ _ => rfl) (by simp [Segment.isLoading])
    rw [setSegment_succ]
    unfold Station.setCut
    split <;> exact emptied
  | _ => exact h

theorem Station.SegmentsOk.turn (h : st.SegmentsOk) (turn : Turn st b) : b.SegmentsOk := by
  cases turn with
  | change cfg config change => exact h.of_same (outside_eq change.outside).2.2.1
  | take taken => exact h.take taken
  | port | estopLine => exact h
  | hardReset => exact hardReset_segmentsOk _
  | softReset => exact h.softReset

theorem Station.StoreOk.turn (h : st.StoreOk) (turn : Turn st b) : b.StoreOk := by
  have same {x : Station} (store : x.store = st.store) : x.StoreOk := by
    unfold Station.StoreOk
    rw [store]
    exact h
  cases turn with
  | change cfg config change => exact same (outside_eq change.outside).2.1
  | take taken =>
    cases taken with
    | controller cfg config changes => exact same (outside_eq (Changes.outside changes)).2.1
    | configure cfg => exact same (configureNow_storage st cfg).2.1
    | segmentData id body m next samples =>
      have written : Store.wf (writeSamples st.store (body.firstPage * pageSize + m) samples) = true := Store.wf_writeSamples h
      unfold Station.setSegment
      split <;> exact written
    | segmentOpen =>
      unfold Station.setSegment
      split <;> exact h
    | segmentDiscard =>
      unfold Station.setSegment Station.setCut
      split <;> exact h
    | _ => exact h
  | port | estopLine | hardReset | softReset => exact h

end

/-- Settles O54: every turn of a command keeps the records and the store in order. -/
theorem stepKeepsSegmentsAndStore : Obligations.StepKeepsSegmentsAndStore := by
  unfold Obligations.StepKeepsSegmentsAndStore
  exact fun _ _ segments store stepped =>
    ⟨step_keeps_of_turn (P := Station.SegmentsOk) (fun h turn => h.turn turn) segments stepped,
      step_keeps_of_turn (P := Station.StoreOk) (fun h turn => h.turn turn) store stepped⟩

end Sys2Proof.Machine
end
section
/-! THE SCHEDULE'S INVARIANT (R15, R20, R25, R27). Within a configuration the playlist, P and the records stand, so the
tables stay those of the playlist, and what is left is the position: every step of the Schedule ends on a legal one. Outside,
a record named by a frozen playlist is READY, and no request writes a READY record but a discard, which the pin refuses. -/

namespace Sys2Proof.Machine

/-! ### Steps 2 to 7 of an update -/

section
variable (st : Station)

/-- Clamping and rate limiting are counted in the engine, and raise events. -/
theorem Station.note_kept (clamped limited : Bool) :
    ((st.noteClamp clamped).noteRate limited).ctl = st.ctl ∧ ((st.noteClamp clamped).noteRate limited).schedule = st.schedule ∧
    ((st.noteClamp clamped).noteRate limited).engine.position = st.engine.position ∧
    ((st.noteClamp clamped).noteRate limited).peers = st.peers ∧ ((st.noteClamp clamped).noteRate limited).link = st.link ∧
    ((st.noteClamp clamped).noteRate limited).drive = st.drive ∧
    ((st.noteClamp clamped).noteRate limited).sup.trackCount = st.sup.trackCount := by
  cases clamped <;> cases limited <;> exact ⟨rfl, rfl, rfl, rfl, rfl, rfl, rfl⟩

/-- Steps 2 to 7 are the engine's own. -/
theorem Station.computeCommand_kept (cfg : ConfigRecord) (m : Mode) (r : EngineRegs) :
    (st.computeCommand cfg m r).ctl = st.ctl ∧ (st.computeCommand cfg m r).schedule = st.schedule ∧
    (st.computeCommand cfg m r).engine.position = st.engine.position ∧ (st.computeCommand cfg m r).peers = st.peers ∧
    (st.computeCommand cfg m r).link = st.link ∧ (st.computeCommand cfg m r).drive = st.drive ∧
    (st.computeCommand cfg m r).sup.trackCount = st.sup.trackCount := by
  unfold computeCommand
  by_cases hm : m = .tripped
  · rw [if_pos hm]
    exact ⟨rfl, rfl, rfl, rfl, rfl, rfl, rfl⟩
  · simp only [if_neg hm]
    split <;> exact note_kept st _ _

/-- Of the registers, steps 2 to 7 leave the increment and the target. -/
theorem Station.computeCommand_regs (cfg : ConfigRecord) (m : Mode) (r : EngineRegs) :
    ∃ c cp, (st.computeCommand cfg m r).engine.regs = some { r with
      fade := if m = .tripped then r.fade else moveFade m r.fade (fadeStep cfg)
      level := moveLevel r.level r.target cfg.levelStep.toNat, command := c, commandPrev := cp } := by
  unfold computeCommand
  by_cases hm : m = .tripped
  · rw [if_pos hm, if_pos hm]
    exact ⟨_, _, rfl⟩
  · simp only [if_neg hm]
    split <;> exact ⟨_, _, rfl⟩

end

/-! ### Tables and positions -/

section
variable {st b : Station}

/-- The tables are computed from the playlist, P and the records that the playlist names (R25, R26). -/
theorem Station.computeTables_congr (playlist : b.schedule.playlist = st.schedule.playlist)
    (passes : b.schedule.passes = st.schedule.passes)
    (named : ∀ e ∈ st.schedule.playlist, b.segment e.segment = st.segment e.segment) : b.computeTables = st.computeTables := by
  have lengths (e) (he : e ∈ st.schedule.playlist) : b.segmentLength e.segment = st.segmentLength e.segment := by
    rw [segmentLength, segmentLength, named e he]
  have spans : st.schedule.playlist.map b.span = st.schedule.playlist.map st.span :=
    List.map_congr_left fun e he => by rw [span, span, lengths e he]
  have bytes : st.schedule.playlist.flatMap b.entryBytes = st.schedule.playlist.flatMap st.entryBytes :=
    List.flatMap_congr fun e he => by rw [entryBytes, entryBytes, lengths e he]
  simp only [computeTables, entryStarts, passLength, fingerprintNow, playlist, passes, spans, bytes]

/-- A legal position is judged by the tables and P alone (R27). -/
theorem Station.positionLegal_congr (tables : b.schedule.tables = st.schedule.tables)
    (passes : b.schedule.passes = st.schedule.passes) (p : Position) : b.positionLegal p = st.positionLegal p := by
  simp only [positionLegal, legal, tables, passes]

/-- R27: below L, in a pass that P allows, and the fields in their ranges. -/
theorem Station.positionLegal_iff {t : Tables} (tables : st.schedule.tables = some t) (p : Position) :
    st.positionLegal p = true ↔ p.whole < t.passLength ∧
      (st.schedule.passes = 0 ∨ 1 ≤ p.pass ∧ p.pass ≤ st.schedule.passes) ∧ p.pass < 4294967296 ∧ p.fraction < 65536 ∧
      (p.park = .none ∨ p.fraction = 0) := by
  simp [positionLegal, legal, tables, and_assoc]

theorem Station.matchesSchedule_iff (fp : BitVec 16) (pass : BitVec 32) (whole : BitVec 48) :
    st.matchesSchedule fp pass whole = true ↔ ∃ t : Tables, st.schedule.tables = some t ∧ t.fingerprint = fp ∧
      whole.toNat < t.passLength ∧ (st.schedule.passes = 0 ∨ (1 ≤ pass.toNat ∧ pass.toNat ≤ st.schedule.passes)) := by
  cases tables : st.schedule.tables <;> simp [matchesSchedule, fingerprint?, legal, tables]

/-- A single step ends on a legal position: in the final pass it parks at L − 1, and so no pass follows it (R29 to R32). -/
theorem Station.singleStep_legal {t : Tables} (tables : st.schedule.tables = some t) (bound : st.schedule.passes ≤ 65535)
    {p : Position} (h : st.positionLegal p = true) : st.positionLegal (st.singleStep p).1 = true := by
  rw [positionLegal_iff tables] at h
  obtain ⟨below, pass, wide, fraction, parked⟩ := h
  unfold singleStep
  split_ifs with park endHere waitHere lastHere
  · exact (positionLegal_iff tables p).mpr ⟨below, pass, wide, fraction, parked⟩
  · exact (positionLegal_iff tables _).mpr ⟨below, pass, wide, Nat.zero_lt_succ _, .inr rfl⟩
  · exact (positionLegal_iff tables _).mpr ⟨below, pass, wide, Nat.zero_lt_succ _, .inr rfl⟩
  · refine (positionLegal_iff tables _).mpr ⟨by show 0 < _; omega, ?_, Nat.mod_lt _ (by decide), fraction, parked⟩
    rcases pass with unlimited | ⟨low, high⟩
    · exact .inl unlimited
    · have goesOn : st.schedule.passes ≠ p.pass := fun final => endHere (by simp [lastHere, finalPass, final]; omega)
      have unwrapped : nextPass p.pass = p.pass + 1 := Nat.mod_eq_of_lt (by omega)
      simp only [unwrapped]
      omega
  · have more : p.whole + 1 ≠ t.passLength := by simpa [lastWhole, tables] using lastHere
    exact (positionLegal_iff tables _).mpr ⟨by show p.whole + 1 < _; omega, pass, wide, fraction, parked⟩

/-! ### A frozen schedule -/

/-- What a frozen schedule is: the playlist has entries, all of them READY, the tables are its own and the position is legal. -/
abbrev Station.FrozenOk (st : Station) : Prop :=
  st.schedule.playlist ≠ [] ∧ (st.schedule.playlist.all fun e => (st.segment e.segment).isReady) ∧
  st.schedule.tables = some st.computeTables ∧ st.engine.position.any st.positionLegal

theorem Station.FrozenOk.setPosition (h : st.FrozenOk) {p : Position} (legal : st.positionLegal p = true) :
    (st.setPosition p).FrozenOk := by
  obtain ⟨entries, ready, tables, -⟩ := h
  exact ⟨entries, ready, tables, legal⟩

theorem Station.FrozenOk.positionLegal (h : st.FrozenOk) {p : Position} (position : st.engine.position = some p) :
    st.positionLegal p = true := by
  obtain ⟨-, -, -, legal⟩ := h
  simpa [position] using legal

/-- A frozen playlist names READY records, and stands while those do. -/
theorem Station.FrozenOk.of_named (h : st.FrozenOk) (playlist : b.schedule.playlist = st.schedule.playlist)
    (passes : b.schedule.passes = st.schedule.passes) (tables : b.schedule.tables = st.schedule.tables)
    (position : b.engine.position = st.engine.position)
    (named : ∀ e ∈ st.schedule.playlist, b.segment e.segment = st.segment e.segment) : b.FrozenOk := by
  obtain ⟨entries, ready, computed, legal⟩ := h
  refine ⟨playlist ▸ entries, ?_, ?_, ?_⟩
  · rw [playlist, List.all_eq_true]
    exact fun e he => named e he ▸ List.all_eq_true.mp ready e he
  · rw [tables, computed, computeTables_congr playlist passes named]
  · rw [position, funext (positionLegal_congr tables passes)]
    exact legal

theorem Station.segment_congr (segments : b.segments = st.segments) (id : Nat) : b.segment id = st.segment id := by
  rw [segment, segment, segments]

variable (h : st.ScheduleOk)
include h

theorem Station.ScheduleOk.frozen (hm : st.ctl.mode.isFrozen = true) : st.FrozenOk := h.2.2.2.1 hm

/-- With the playlist and P as they were, only what the state asks for is left. -/
theorem Station.ScheduleOk.of_outside (outside : b.outside = st.outside) (frozen : b.ctl.mode.isFrozen = true → b.FrozenOk)
    (unfrozen : b.ctl.mode.isFrozen = false → b.schedule.tables = none ∧ b.engine.position = none) : b.ScheduleOk := by
  obtain ⟨room, legal, range, -, -⟩ := h
  obtain ⟨-, -, -, -, playlist, passes, -⟩ := outside_eq outside
  exact ⟨playlist ▸ room, playlist ▸ legal, passes ▸ range, frozen, unfrozen⟩

/-- Where the tables, the position and the frozen states stand, the invariant stands. -/
theorem Station.ScheduleOk.of_same (outside : b.outside = st.outside) (tables : b.schedule.tables = st.schedule.tables)
    (position : b.engine.position = st.engine.position) (mode : b.ctl.mode.isFrozen = st.ctl.mode.isFrozen) :
    b.ScheduleOk := by
  obtain ⟨-, -, segments, -, playlist, passes, -⟩ := outside_eq outside
  obtain ⟨-, -, -, -, unfrozen⟩ := id h
  refine h.of_outside outside (fun hm => ?_) fun hm => tables ▸ position ▸ unfrozen (mode ▸ hm)
  exact (h.frozen (mode ▸ hm)).of_named playlist passes tables position fun e _ => segment_congr segments e.segment

/-- A position exists in the frozen states alone (R42). -/
theorem Station.ScheduleOk.frozen_of_position {p : Position} (position : st.engine.position = some p) :
    st.ctl.mode.isFrozen = true := by
  obtain ⟨-, -, -, -, unfrozen⟩ := h
  by_contra hm
  simp [(unfrozen (by simpa using hm)).2] at position

theorem Station.ScheduleOk.setPosition (hm : st.ctl.mode.isFrozen = true) {p : Position} (legal : st.positionLegal p = true) :
    (st.setPosition p).ScheduleOk :=
  h.of_outside (b := st.setPosition p) rfl (fun _ => (h.frozen hm).setPosition legal)
    fun unfrozen => absurd (hm.symm.trans unfrozen) (by decide)

/-- A record that a frozen playlist does not name may become another. -/
theorem Station.ScheduleOk.setSegment {id : Nat} (segmentId : isSegmentId id = true) (r : Segment)
    (unnamed : st.ctl.mode.isFrozen = true → ∀ e ∈ st.schedule.playlist, e.segment ≠ id) :
    (st.setSegment id r).ScheduleOk := by
  have written := segment_setSegment (st := st) segmentId r
  obtain ⟨room, legal, range, frozen, unfrozen⟩ := h
  obtain ⟨k, rfl⟩ := exists_index_of_isSegmentId segmentId
  rw [setSegment_succ] at written ⊢
  refine ⟨room, legal, range, fun hm => ?_, unfrozen⟩
  exact FrozenOk.of_named (frozen hm) rfl rfl rfl rfl fun e he => by rw [written, if_neg (unnamed hm e he)]

/-- A record that is not READY is not named by a frozen playlist (R15, R72). -/
theorem Station.ScheduleOk.unnamed {id : Nat} (unready : (st.segment id).isReady = false) (hm : st.ctl.mode.isFrozen = true) :
    ∀ e ∈ st.schedule.playlist, e.segment ≠ id := by
  rintro e he rfl
  obtain ⟨-, ready, -⟩ := h.frozen hm
  simp [List.all_eq_true.mp ready e he] at unready

end

/-! ### The changes within a configuration -/

section
variable {st b : Station} {cfg : ConfigRecord}

theorem Mode.isFrozen_of_isPermit {m : Mode} (h : m.isPermit = true) : m.isFrozen = true := by
  cases m <;> first | rfl | cases h

theorem Station.takeReason_isFrozen (r : HoldReason) (k : StationNo) :
    (st.takeReason cfg r k).ctl.mode.isFrozen = st.ctl.mode.isFrozen := by
  by_cases hr : r = .wait <;> cases hm : st.ctl.mode <;> simp [takeReason, hm, hr, startHold_mode, Mode.isFrozen, insertReason]

theorem Station.takeTrip_isFrozen (cause : TripCause) (k : StationNo) :
    (st.takeTrip cfg cause k).ctl.mode.isFrozen = st.ctl.mode.isFrozen := by
  by_cases permit : st.ctl.mode.isPermit = true
  · rw [takeTrip_mode permit, Mode.isFrozen_of_isPermit permit]
    rfl
  · rw [takeTrip, if_neg permit]

theorem Station.takeStepReport_isFrozen (r : StepReport) :
    (st.takeStepReport cfg r).ctl.mode.isFrozen = st.ctl.mode.isFrozen := by
  cases r with
  | nothing | passEnd => rfl
  | waitPark =>
    show (st.takeWaitPark cfg).ctl.mode.isFrozen = _
    unfold takeWaitPark
    split
    · next hm => simp [hm, Mode.isFrozen]
    all_goals exact takeReason_isFrozen _ _
  | endPark =>
    show (st.takeEndPark cfg).ctl.mode.isFrozen = _
    unfold takeEndPark
    split
    · next moving =>
      rw [enterMode_mode]
      cases hm : st.ctl.mode <;> simp_all [Mode.isMoving, Mode.isFrozen]
    · rfl

/-- An entry that is legal and whose record is READY plays samples: a segment has at least 16 (R3, R25). -/
theorem Station.SegmentsOk.span_pos (h : st.SegmentsOk) {e : Entry} (legal : e.legal = true)
    (ready : (st.segment e.segment).isReady = true) : 0 < st.span e := by
  simp only [Entry.legal, Bool.and_eq_true, decide_eq_true_eq] at legal
  obtain ⟨⟨segmentId, repeats⟩, -⟩ := legal
  obtain ⟨k, hk⟩ := exists_index_of_isSegmentId segmentId
  have record := h.1 k
  rw [← segment_succ, ← hk] at record
  cases hs : st.segment e.segment with
  | ready b =>
    rw [hs] at record
    simp only [Segment.legal, SegmentBody.fits, Bool.and_eq_true, decide_eq_true_eq] at record
    obtain ⟨⟨⟨⟨long, -⟩, -⟩, -⟩, -⟩ := record
    simp only [span, segmentLength, hs, Segment.body?]
    exact Nat.mul_pos (by omega) (by omega)
  | empty | loading | bad => rw [hs] at ready; cases ready

theorem Station.passLength_pos (entries : st.schedule.playlist ≠ [])
    (spans : ∀ e ∈ st.schedule.playlist, 0 < st.span e) : 0 < st.passLength := by
  unfold passLength
  cases hp : st.schedule.playlist with
  | nil => exact absurd hp entries
  | cons e rest =>
    have := spans e (by simp [hp])
    simp only [List.map_cons, List.sum_cons]
    omega

/-- The conditions 1 and 2 of R72. -/
theorem Station.armFailure_entries (h : st.armFailure = none) :
    st.schedule.playlist ≠ [] ∧ st.schedule.playlist.all fun e => (st.segment e.segment).isReady := by
  unfold armFailure at h
  split at h
  · cases h
  · next entries =>
    split at h
    · cases h
    · next ready =>
      refine ⟨fun hp => entries (by simp [hp]), List.all_eq_true.mpr fun e he => ?_⟩
      simpa using List.findIdx?_eq_none_iff.mp ready e he

/-- R73: the tables that ARM freezes are those of the playlist, and position 0 of pass 1 is legal. -/
theorem Station.ScheduleOk.arm (h : st.ScheduleOk) (segments : st.SegmentsOk) (conditions : st.armFailure = none) :
    (st.armNow cfg).ScheduleOk := by
  obtain ⟨entries, ready⟩ := armFailure_entries conditions
  obtain ⟨-, legal, range, -, -⟩ := id h
  have long : 0 < st.passLength := passLength_pos entries fun e he =>
    segments.span_pos (List.all_eq_true.mp legal e he) (List.all_eq_true.mp ready e he)
  have begun : (st.armNow cfg).FrozenOk := by
    unfold armNow
    rw [enterMode_eq]
    refine ⟨entries, ready, rfl, ?_⟩
    refine (positionLegal_iff (t := st.computeTables) rfl _).mpr ⟨long, ?_, by decide, by decide, .inl rfl⟩
    simp only [le_refl, true_and]
    omega
  refine h.of_outside ((enterMode_outside _).trans rfl) (fun _ => begun) fun hm => ?_
  simp [armNow, Mode.isFrozen] at hm

/-- A GO and a RESUME are taken at a position of the frozen schedule (R76, R86). -/
theorem Station.ScheduleOk.beginCountdown (h : st.ScheduleOk) (hm : st.ctl.mode.isFrozen = true) {fp : BitVec 16}
    {pass : BitVec 32} {whole : BitVec 48} (fits : st.matchesSchedule fp pass whole = true) :
    (st.beginCountdown cfg pass.toNat whole.toNat).ScheduleOk := by
  obtain ⟨t, tables, -, below, passes⟩ := (matchesSchedule_iff fp pass whole).mp fits
  have placed := (h.frozen hm).setPosition (p := ⟨pass.toNat, whole.toNat, 0, .none⟩)
    ((positionLegal_iff tables _).mpr ⟨below, passes, pass.isLt, Nat.zero_lt_succ _, .inl rfl⟩)
  refine h.of_outside ((enterMode_outside _).trans rfl) (fun _ => ?_) fun hm => ?_
  · unfold Station.beginCountdown
    rw [enterMode_eq]
    exact placed
  · simp [Station.beginCountdown, Mode.isFrozen] at hm

theorem Station.ScheduleOk.change (h : st.ScheduleOk) (segments : st.SegmentsOk) (c : Change cfg st b) : b.ScheduleOk := by
  have outside := c.outside
  have entered {m : Mode} (hm : m.isFrozen = st.ctl.mode.isFrozen) : (st.enterMode cfg m).ScheduleOk :=
    h.of_same (enterMode_outside m) (by simp) (by simp) (by rw [enterMode_mode, hm])
  have stepped {x : Station} (hx : x.ScheduleOk) (r : StepReport) : (x.takeStepReport cfg r).ScheduleOk :=
    hx.of_same (takeStepReport_outside r) (by rw [(takeStepReport_kept x cfg r).1]) (takeStepReport_kept x cfg r).2
      (takeStepReport_isFrozen r)
  cases c with
  | takeReason r k =>
    obtain ⟨-, -, schedule, position⟩ := takeReason_kept st cfg r k
    exact h.of_same outside (by rw [schedule]) position (takeReason_isFrozen r k)
  | takeTrip cause k =>
    obtain ⟨-, -, schedule, -, -, position⟩ := takeTrip_kept st cfg cause k
    exact h.of_same outside (by rw [schedule]) position (takeTrip_isFrozen cause k)
  | enterIdle mode =>
    refine h.of_outside outside (fun hm => ?_) fun _ => ?_
    · simp [enterIdle, Mode.isFrozen] at hm
    · unfold enterIdle dropGoAndResume
      simp only [enterMode_schedule, enterMode_position]
      split <;> exact ⟨rfl, rfl⟩
  | arm mode conditions => exact h.arm segments conditions
  | go fp pass whole mode fits => 
    exact ScheduleOk.beginCountdown (st := st.zeroFade.clearRunMarks) h (by show st.ctl.mode.isFrozen = true; rw [mode]; rfl) fits
  | resume fp pass whole mode fits =>
    exact ScheduleOk.beginCountdown (st := { st with ctl := { st.ctl with reasons := withoutResumable st.ctl.reasons, holdRecord := none } }) h
      (by show st.ctl.mode.isFrozen = true; rw [mode]; rfl) fits
  | expireCountdown =>
    unfold Station.expireCountdown
    split
    · next hm => exact entered (by rw [hm.1]; rfl)
    · exact h
  | endRampIn =>
    unfold Station.endRampIn
    split
    · next hm => exact entered (by rw [hm.2]; rfl)
    · exact h
  | endRampOut =>
    unfold Station.endRampOut
    split
    · cases hm : st.ctl.mode with
      | rampOutMoving | rampOutParked | ending => exact entered (by rw [hm]; rfl)
      | unconfigured | idle | armed | countdown | rampIn | playing | held | complete | tripped => exact h
    · exact h
  | countDown =>
    unfold Station.countDown
    split
    · exact h
    · exact h.of_same rfl rfl rfl rfl
  | fraction p sum position unparked =>
    have frozen := h.frozen_of_position position
    obtain ⟨-, -, tables, -⟩ := h.frozen frozen
    have legal := (positionLegal_iff tables p).mp ((h.frozen frozen).positionLegal position)
    obtain ⟨below, pass, wide, -, -⟩ := legal
    exact h.setPosition frozen
      ((positionLegal_iff tables _).mpr ⟨below, pass, wide, Nat.mod_lt _ (Nat.zero_lt_succ _), .inl unparked⟩)
  | step p position =>
    have frozen := h.frozen_of_position position
    obtain ⟨-, -, tables, -⟩ := h.frozen frozen
    obtain ⟨-, -, range, -, -⟩ := id h
    have legal := singleStep_legal tables range ((h.frozen frozen).positionLegal position)
    exact stepped (h.setPosition frozen legal) _
  | compute m r =>
    obtain ⟨ctl, schedule, position, -⟩ := computeCommand_kept st cfg m r
    exact h.of_same outside (by rw [schedule]) position (by rw [ctl])
  | beginAttempt =>
    unfold Station.beginAttempt
    split <;> exact h.of_same rfl rfl rfl rfl
  | _ => exact h.of_same outside rfl rfl rfl

/-! ### The requests and the turns -/

theorem Station.ScheduleOk.take (h : st.ScheduleOk) (segments : st.SegmentsOk) (t : Taken st b) : b.ScheduleOk := by
  cases t with
  | controller cfg config changes =>
    refine (changes.keeps (P := fun x => x.ScheduleOk ∧ x.SegmentsOk) (fun hx change => ?_) ⟨h, segments⟩).1
    exact ⟨hx.1.change hx.2 change, hx.2.of_same (outside_eq change.outside).2.2.1⟩
  | configure cfg mode =>
    obtain ⟨-, -, schedule, position, idle⟩ := configureNow_storage st cfg
    obtain ⟨room, legal, range, -, unfrozen⟩ := h
    refine ⟨schedule ▸ room, schedule ▸ legal, schedule ▸ range, fun hm => ?_, fun _ => ⟨?_, position⟩⟩
    · rw [idle] at hm
      cases hm
    · exact schedule ▸ (unfrozen (by rw [mode]; rfl)).1
  | segmentOpen id body segmentId empty =>
    refine h.setSegment segmentId _ (h.unnamed ?_)
    cases hs : st.segment id <;> simp_all [Segment.isEmpty, Segment.isReady]
  | segmentData id body m next samples events segmentId loading =>
    have stored : ({ st with store := writeSamples st.store (body.firstPage * pageSize + m) samples } : Station).ScheduleOk := h
    exact stored.setSegment segmentId _ (h.unnamed (by rw [loading]; rfl))
  | segmentDiscard id cut segmentId unpinned mode =>
    have remembered : (st.setCut id cut).ScheduleOk := by
      unfold Station.setCut
      split <;> exact h
    have same : (st.setCut id cut).schedule = st.schedule ∧ (st.setCut id cut).ctl = st.ctl := by
      unfold Station.setCut
      split <;> exact ⟨rfl, rfl⟩
    refine remembered.setSegment segmentId _ ?_
    rw [same.1, same.2]
    rintro hm e he rfl
    have pin : st.pinned e.segment = true := by
      simp only [pinned, Bool.and_eq_true, List.any_eq_true, decide_eq_true_eq]
      exact ⟨⟨⟨e, he, rfl⟩, mode⟩, fun idle => by rw [idle] at hm; cases hm⟩
    rw [unpinned] at pin
    cases pin
  | schedule playlist passes mode entries room range =>
    obtain ⟨room', legal, range', -, unfrozen⟩ := h
    refine ⟨by show playlist.length ≤ _; omega, List.all_eq_true.mpr fun e he => ?_, by show passes ≤ _; omega, fun hm => ?_, unfrozen⟩
    · rcases entries e he with old | new
      · exact List.all_eq_true.mp legal e old
      · exact new
    · rw [show ({ st with schedule := { st.schedule with playlist := playlist, passes := passes } } : Station).ctl.mode = .idle
        from mode] at hm
      cases hm
  | _ => exact h

theorem Station.reset_scheduleOk : Station.reset.ScheduleOk := by decide

theorem Station.ScheduleOk.turn (h : st.ScheduleOk) (segments : st.SegmentsOk) (turn : Turn st b) : b.ScheduleOk := by
  cases turn with
  | change cfg config change => exact h.change segments change
  | take taken => exact h.take segments taken
  | port | estopLine => exact h
  | hardReset => exact Station.reset_scheduleOk
  | softReset => 
    exact ⟨Nat.zero_le _, rfl, by show (1 : Nat) ≤ _; decide, fun hm => absurd hm Bool.false_ne_true, fun _ => ⟨rfl, rfl⟩⟩

end

/-- Settles O55: every turn of a command keeps the schedule in order, beside the segment records. -/
theorem stepKeepsSchedule : Obligations.StepKeepsSchedule := by
  unfold Obligations.StepKeepsSchedule
  exact fun _ _ segments schedule stepped =>
    (step_keeps_of_turn (P := fun x => x.SegmentsOk ∧ x.ScheduleOk) (fun h turn => ⟨h.1.turn turn, h.2.turn h.1 turn⟩)
      ⟨segments, schedule⟩ stepped).2

end Sys2Proof.Machine
end
section
/-! FADE AND INCREMENT (R41, R49 to R51). Both are read off the registers and the state: what a state entered asks for is
said once, and a change that leaves the state, the registers and the reported end alone carries them over. -/

namespace Sys2Proof.Machine

section
variable {st b : Station} {cfg : ConfigRecord}

/-- What the rules ask of g in a state, with the end of a fade that is reported. -/
def FadeIn (m : Mode) (reported : Option FadeEnd) (g : Nat) : Prop :=
  g ≤ 32768 ∧ (m.isFaded = false → g = 0) ∧ (m = .playing → g = 32768) ∧
  (reported = some .rampIn → m = .rampIn ∧ g = 32768) ∧ (reported = some .rampOut → m.isFadingOut = true ∧ g = 0)

theorem Station.fadeOk_iff : st.fadeOk = true ↔
    ∀ r, st.engine.regs = some r → FadeIn st.ctl.mode st.engine.fadeEnd r.fade := by
  unfold fadeOk
  cases st.engine.regs with
  | none => simp
  | some r =>
    simp only [Option.some.injEq, forall_eq', FadeIn, Bool.and_eq_true, Bool.or_eq_true, decide_eq_true_eq, beq_iff_eq,
      bne_iff_ne, ne_eq, ← imp_iff_not_or, and_assoc]
    cases st.ctl.mode.isFaded <;> simp

/-- What the rules ask of I in a state. -/
def IncrementIn (cfg : ConfigRecord) (m : Mode) (i : Nat) : Prop :=
  (m.isMoving = true → nominal cfg - nominal cfg / 64 ≤ i ∧ i ≤ nominal cfg + nominal cfg / 64) ∧
  (m.isMoving = false → i = nominal cfg)

theorem incrementIn_nominal (cfg : ConfigRecord) (m : Mode) : IncrementIn cfg m (nominal cfg) :=
  ⟨fun _ => ⟨Nat.sub_le _ _, Nat.le_add_right _ _⟩, fun _ => rfl⟩

theorem Station.incrementOk_iff (config : st.config = some cfg) : st.incrementOk = true ↔
    ∀ r, st.engine.regs = some r → IncrementIn cfg st.ctl.mode r.increment := by
  unfold incrementOk IncrementIn
  rw [config]
  cases st.engine.regs with
  | none => simp
  | some r => cases st.ctl.mode.isMoving <;> simp

/-- The two ranges together, in the configuration in force. -/
def Station.MotionIn (st : Station) (cfg : ConfigRecord) : Prop :=
  ∀ r, st.engine.regs = some r →
    FadeIn st.ctl.mode st.engine.fadeEnd r.fade ∧ IncrementIn cfg st.ctl.mode r.increment

theorem Station.motionIn_iff (config : st.config = some cfg) :
    st.MotionIn cfg ↔ st.fadeOk = true ∧ st.incrementOk = true := by
  rw [fadeOk_iff, incrementOk_iff config]
  exact ⟨fun h => ⟨fun r hr => (h r hr).1, fun r hr => (h r hr).2⟩, fun h r hr => ⟨h.1 r hr, h.2 r hr⟩⟩

theorem Station.MotionIn.of_same (h : st.MotionIn cfg) (regs : b.engine.regs = st.engine.regs)
    (reported : b.engine.fadeEnd = st.engine.fadeEnd) (mode : b.ctl.mode = st.ctl.mode) : b.MotionIn cfg := by
  unfold Station.MotionIn at h ⊢
  rw [regs, reported, mode]
  exact h

/-- A state entered has the increment it asks for (R41), and so g alone is left to ask of it. -/
theorem Station.enterMode_motionIn {m : Mode}
    (increment : ∀ r, st.engine.regs = some r → IncrementIn cfg st.ctl.mode r.increment)
    (fade : ∀ r, st.engine.regs = some r → FadeIn m none r.fade) : (st.enterMode cfg m).MotionIn cfg := by
  rw [enterMode_eq]
  intro r hr
  cases moving : m.isMoving with
  | true =>
    simp only [moving, if_true] at hr
    obtain ⟨moves, stands⟩ := increment r hr
    refine ⟨fade r hr, fun _ => ?_, fun still => absurd (moving.symm.trans still) (by decide)⟩
    cases was : st.ctl.mode.isMoving with
    | true => exact moves was
    | false => exact stands was ▸ (incrementIn_nominal cfg m).1 moving
  | false =>
    simp only [moving, Bool.false_eq_true, if_false, Option.map_eq_some_iff] at hr
    obtain ⟨r', hr', rfl⟩ := hr
    exact ⟨fade r' hr', incrementIn_nominal cfg m⟩

theorem Station.MotionIn.enterMode (h : st.MotionIn cfg) {m : Mode}
    (fade : ∀ r, st.engine.regs = some r → FadeIn m none r.fade) : (st.enterMode cfg m).MotionIn cfg :=
  enterMode_motionIn (fun r hr => (h r hr).2) fade

/-- A state in which g fades asks of it the range alone. -/
theorem FadeIn.faded {m : Mode} {reported : Option FadeEnd} {g : Nat} (h : FadeIn m reported g) {n : Mode}
    (faded : n.isFaded = true) (unlike : n ≠ .playing) : FadeIn n none g :=
  ⟨h.1, fun still => absurd (faded.symm.trans still) (by decide), fun playing => absurd playing unlike, nofun, nofun⟩

theorem fadeIn_zero {n : Mode} (unlike : n ≠ .playing) : FadeIn n none 0 :=
  ⟨Nat.zero_le _, fun _ => rfl, fun playing => absurd playing unlike, nofun, nofun⟩

/-- Outside the fades and PLAYING g is 0, and so may be in any state but PLAYING. -/
theorem FadeIn.still {m : Mode} {reported : Option FadeEnd} {g : Nat} (h : FadeIn m reported g) (still : m.isFaded = false)
    {n : Mode} (unlike : n ≠ .playing) : FadeIn n none g := by
  obtain ⟨-, zero, -⟩ := h
  exact zero still ▸ fadeIn_zero unlike

/-- From a state where g is 0 any state but PLAYING may be entered. -/
theorem Station.MotionIn.enter_of_still (h : st.MotionIn cfg) (still : st.ctl.mode.isFaded = false) {m : Mode}
    (unlike : m ≠ .playing) : (st.enterMode cfg m).MotionIn cfg :=
  h.enterMode fun r hr => (h r hr).1.still still unlike

/-- A fading state may be entered from every state. -/
theorem Station.MotionIn.enter_faded (h : st.MotionIn cfg) {m : Mode} (faded : m.isFaded = true) (unlike : m ≠ .playing) :
    (st.enterMode cfg m).MotionIn cfg :=
  h.enterMode fun r hr => (h r hr).1.faded faded unlike

theorem Station.MotionIn.takeReason (h : st.MotionIn cfg) (r : HoldReason) (k : StationNo) :
    (st.takeReason cfg r k).MotionIn cfg := by
  have joined : (st.insertReason r).MotionIn cfg := h.of_same rfl rfl rfl
  have started {x : Station} (hx : x.MotionIn cfg) : (x.startHold r k).MotionIn cfg :=
    hx.of_same (by rw [startHold_engine]) (by rw [startHold_engine]) (startHold_mode x r k)
  unfold Station.takeReason
  cases hm : st.ctl.mode with
  | rampIn | playing => exact started (joined.enter_faded (by split <;> rfl) (by split <;> decide))
  | countdown =>
    have still : (st.insertReason r).ctl.mode.isFaded = false := by
      show st.ctl.mode.isFaded = false
      rw [hm]
      rfl
    exact started (joined.enter_of_still still (by decide))
  | rampOutMoving | rampOutParked | held | ending | complete => exact joined
  | unconfigured | idle | armed | tripped => exact h

/-- A trip sets g to 0 at once (R91). -/
theorem Station.MotionIn.takeTrip (h : st.MotionIn cfg) (cause : TripCause) (k : StationNo) :
    (st.takeTrip cfg cause k).MotionIn cfg := by
  have tripped (record : TripRecord) : (((({ st with ctl := { st.ctl with tripRecord := some record } } :
      Station).forceOffset cfg).emptyControl).enterMode cfg .tripped).MotionIn cfg := by
    refine enterMode_motionIn (fun r hr => ?_) fun r hr => ?_ <;> obtain ⟨x, hx, rfl⟩ := Option.map_eq_some_iff.mp hr
    · exact (h x hx).2
    · exact fadeIn_zero nofun
  unfold Station.takeTrip
  split
  · have entered := tripped { cause := cause, origin := k, state := st.ctl.mode, position := st.positionNow }
    simp only
    generalize Station.enterMode _ cfg .tripped = x at entered ⊢
    split <;> exact entered.of_same rfl rfl rfl
  · exact h

theorem Station.MotionIn.takeStepReport (h : st.MotionIn cfg) (r : StepReport) : (st.takeStepReport cfg r).MotionIn cfg := by
  cases r with
  | nothing | passEnd => exact h
  | waitPark =>
    show (st.takeWaitPark cfg).MotionIn cfg
    unfold Station.takeWaitPark
    split
    · exact MotionIn.enter_faded (st := st.insertReason .wait) (h.of_same rfl rfl rfl) rfl (by decide)
    all_goals exact h.takeReason _ _
  | endPark =>
    show (st.takeEndPark cfg).MotionIn cfg
    unfold Station.takeEndPark
    split
    · exact h.enter_faded rfl (by decide)
    · exact h

/-- R49: at the end of a ramp-in g stands at 32768. -/
theorem Station.MotionIn.endRampIn (h : st.MotionIn cfg) : (st.endRampIn cfg).MotionIn cfg := by
  unfold Station.endRampIn
  split
  · next ended =>
    refine h.enterMode fun r hr => ?_
    obtain ⟨⟨range, -, -, full, -⟩, -⟩ := h r hr
    exact ⟨range, fun still => Bool.noConfusion still, fun _ => (full ended.1).2, nofun, nofun⟩
  · exact h

/-- R50: at the end of a ramp-out g stands at 0. -/
theorem Station.MotionIn.endRampOut (h : st.MotionIn cfg) : (st.endRampOut cfg).MotionIn cfg := by
  unfold Station.endRampOut
  split
  · next ended =>
    have emptied {m : Mode} (unlike : m ≠ .playing) : (st.enterMode cfg m).MotionIn cfg := by
      refine h.enterMode fun r hr => ?_
      obtain ⟨⟨-, -, -, -, zero⟩, -⟩ := h r hr
      exact (zero ended).2 ▸ fadeIn_zero unlike
    split <;> first | exact h | exact emptied (by decide)
  · exact h

/-- R49 to R51: a fade that moves stays in range, and stands where the state does not fade. -/
theorem moveFade_le {m : Mode} {g step : Nat} (h : g ≤ 32768) : moveFade m g step ≤ 32768 := by
  unfold moveFade
  split_ifs <;> omega

/-- A ramp-in raises g, and reports its end at 32768 (R49). -/
theorem FadeIn.rampIn {now : Mode} {reported : Option FadeEnd} {g : Nat} (h : FadeIn now reported g)
    (began : now = .rampIn ∨ ((now = .rampOutParked ∨ now = .ending) ∧ reported = none)) (step : Nat) :
    FadeIn now ((fadeReport .rampIn now (min 32768 (g + step))).or reported) (min 32768 (g + step)) := by
  obtain ⟨-, -, -, full, zero⟩ := h
  have range : min 32768 (g + step) ≤ 32768 := Nat.min_le_left _ _
  rcases began with rfl | ⟨rfl | rfl, rfl⟩
  · refine ⟨range, fun still => Bool.noConfusion still, nofun, ?_, ?_⟩ <;>
      simp only [fadeReport, and_true, true_and, if_true] <;> split
    · next reached => exact fun _ => reached
    · exact fun was => by have := (full was).2; omega
    · exact nofun
    · exact fun was => Bool.noConfusion (zero was).1
  · exact ⟨range, fun still => Bool.noConfusion still, nofun, by simp [fadeReport], by simp [fadeReport]⟩
  · exact ⟨range, fun still => Bool.noConfusion still, nofun, by simp [fadeReport], by simp [fadeReport]⟩

/-- A ramp-out and ENDING lower g, and report its end at 0 (R50). -/
theorem FadeIn.fadingOut {m now : Mode} {reported : Option FadeEnd} {g : Nat} (h : FadeIn now reported g)
    (out : m.isFadingOut = true) (outNow : now.isFadingOut = true) (step : Nat) :
    FadeIn now ((fadeReport m now (g - step)).or reported) (g - step) := by
  obtain ⟨range, -, -, full, zero⟩ := h
  have faded : now.isFaded = true := by cases now <;> simp_all [Mode.isFadingOut, Mode.isFaded]
  have unlike : m ≠ .rampIn ∧ now ≠ .rampIn ∧ now ≠ .playing := by
    refine ⟨?_, ?_, ?_⟩ <;> rintro rfl <;> contradiction
  refine ⟨by omega, fun still => absurd (faded.symm.trans still) (by decide), fun playing => absurd playing unlike.2.2, ?_, ?_⟩ <;>
    simp only [fadeReport, if_neg unlike.1, if_pos out] <;> split
  · exact nofun
  · exact fun was => absurd (full was).1 unlike.2.1
  · next reached => exact fun _ => ⟨outNow, reached⟩
  · exact fun was => ⟨outNow, by have := (zero was).2; omega⟩

/-- Step 4 moves g as the state in which the update began says, and reports the end it reaches (R49 to R51). -/
theorem FadeIn.move {m now : Mode} {reported : Option FadeEnd} {g : Nat} (h : FadeIn now reported g)
    (began : now = m ∨ (m.isMoving = true ∧ (now = .rampOutParked ∨ now = .ending) ∧ reported = none)) (step : Nat) :
    FadeIn now ((fadeReport m now (moveFade m g step)).or reported) (moveFade m g step) := by
  unfold moveFade
  split_ifs with rising falling
  · subst rising
    exact h.rampIn (began.imp id And.right) step
  · refine h.fadingOut falling ?_ step
    rcases began with rfl | ⟨-, rfl | rfl, -⟩ <;> first | exact falling | rfl
  · have unreported : fadeReport m now g = none := by rw [fadeReport, if_neg rising, if_neg falling]
    rw [unreported]
    exact h

/-- Steps 2 to 7 write the reported end of the fade. -/
theorem Station.computeCommand_fadeEnd (cfg : ConfigRecord) (m : Mode) (r : EngineRegs) (unlike : m ≠ .tripped) :
    (st.computeCommand cfg m r).engine.fadeEnd =
      (fadeReport m st.ctl.mode (moveFade m r.fade (fadeStep cfg))).or st.engine.fadeEnd := by
  have noted (clamped limited : Bool) : ((st.noteClamp clamped).noteRate limited).engine.fadeEnd = st.engine.fadeEnd ∧
      ((st.noteClamp clamped).noteRate limited).ctl = st.ctl := by
    cases clamped <;> cases limited <;> exact ⟨rfl, rfl⟩
  unfold computeCommand
  simp only [if_neg unlike]
  cases fadeReport m st.ctl.mode (moveFade m r.fade (fadeStep cfg)) with
  | none => exact (noted _ _).1
  | some f => rfl

theorem Station.computeCommand_fadeEnd_tripped (cfg : ConfigRecord) (r : EngineRegs) :
    (st.computeCommand cfg .tripped r).engine.fadeEnd = st.engine.fadeEnd := rfl

theorem Station.MotionIn.computeCommand (h : st.MotionIn cfg) {m : Mode} {r : EngineRegs} (regs : st.engine.regs = some r)
    (began : st.MayPark m) : (st.computeCommand cfg m r).MotionIn cfg := by
  intro x hx
  obtain ⟨ctl, -⟩ := computeCommand_kept st cfg m r
  obtain ⟨c, cp, now⟩ := computeCommand_regs st cfg m r
  obtain ⟨fade, increment⟩ := h r regs
  rw [now] at hx
  cases hx
  rw [ctl]
  refine ⟨?_, increment⟩
  by_cases hm : m = .tripped
  · subst hm
    exact fade
  · rw [if_neg hm, computeCommand_fadeEnd cfg m r hm]
    exact fade.move began (fadeStep cfg)

/-- The trim keeps the increment within N ± N/64 (R115, R117). -/
theorem trimOf_bounds (m : Int) (n : Nat) : -((n / 64 : Nat) : Int) ≤ trimOf m n ∧ trimOf m n ≤ ((n / 64 : Nat) : Int) := by
  unfold trimOf clampInt
  split_ifs <;> omega

theorem Station.MotionIn.setIncrement (h : st.MotionIn cfg) {t : Int}
    (bound : t = 0 ∨ (st.ctl.mode.isMoving = true ∧ ∃ m, t = trimOf m (nominal cfg))) :
    (st.setIncrement ((nominal cfg : Int) + t).toNat).MotionIn cfg := by
  intro x hx
  obtain ⟨r, regs, rfl⟩ := Option.map_eq_some_iff.mp hx
  refine ⟨(h r regs).1, ?_⟩
  rcases bound with rfl | ⟨moving, m, rfl⟩
  · simpa using incrementIn_nominal cfg st.ctl.mode
  · refine ⟨fun _ => ?_, fun still => absurd (moving.symm.trans still) (by decide)⟩
    have := trimOf_bounds m (nominal cfg)
    simp only
    omega

theorem Station.MotionIn.enterIdle (h : st.MotionIn cfg) (still : st.ctl.mode.isFaded = false) :
    (st.enterIdle cfg).MotionIn cfg := by
  unfold Station.enterIdle dropGoAndResume
  refine enterMode_motionIn ?_ ?_ <;> simp only <;> split <;>
    first | exact fun r hr => (h r hr).2 | exact fun r hr => (h r hr).1.still still nofun

theorem Station.MotionIn.change (h : st.MotionIn cfg) (c : Change cfg st b) : b.MotionIn cfg := by
  cases c with
  | takeReason r k => exact h.takeReason r k
  | takeTrip cause k => exact h.takeTrip cause k
  | enterIdle mode =>
    have still : st.ctl.mode.isFaded = false := by rcases mode with hm | hm | hm | hm <;> rw [hm] <;> rfl
    exact h.enterIdle still
  | arm mode conditions =>
    exact enterMode_motionIn (fun r hr => (h r hr).2) fun r hr => (h r hr).1.still (by rw [mode]; rfl) nofun
  | go fp pass whole mode fits =>
    refine enterMode_motionIn (fun r hr => ?_) fun r hr => ?_ <;> obtain ⟨x, hx, rfl⟩ := Option.map_eq_some_iff.mp hr
    · exact (h x hx).2
    · exact fadeIn_zero nofun
  | resume fp pass whole mode fits =>
    exact enterMode_motionIn (fun r hr => (h r hr).2) fun r hr => (h r hr).1.still (by rw [mode]; rfl) nofun
  | expireCountdown =>
    unfold Station.expireCountdown
    split
    · next expired => exact h.enter_of_still (by rw [expired.1]; rfl) (by decide)
    · exact h
  | endRampIn => exact h.endRampIn
  | endRampOut => exact h.endRampOut
  | countDown =>
    unfold Station.countDown
    split
    · exact h.of_same rfl rfl rfl
    · exact h
  | step p => exact MotionIn.takeStepReport (st := st.setPosition (st.singleStep p).1) (h.of_same rfl rfl rfl) _
  | compute m r regs began => exact h.computeCommand regs began
  | increment t bound => exact h.setIncrement bound
  | beginAttempt =>
    unfold Station.beginAttempt
    split <;> exact h.of_same rfl rfl rfl
  | _ => exact h.of_same rfl rfl rfl

/-- A record and the mark of a cut loading are written in the Segment Table. -/
theorem Station.setSegment_cases (st : Station) (id : Nat) (r : Segment) : ∃ v, st.setSegment id r = { st with segments := v } := by
  unfold setSegment
  split <;> exact ⟨_, rfl⟩

theorem Station.setCut_cases (st : Station) (id : Nat) (cut : Bool) : ∃ v, st.setCut id cut = { st with cutLoadings := v } := by
  unfold setCut
  split <;> exact ⟨_, rfl⟩

/-- What an accepted CONFIGURE leaves in the blocks (R189), an active ESTOP taken as becoming active in IDLE, where no trip
is taken (R92, R166). -/
theorem Station.configureNow_blocks (st : Station) (cfg : ConfigRecord) :
    (st.configureNow cfg).config = some cfg ∧ (st.configureNow cfg).ctl.mode = .idle ∧
    (st.configureNow cfg).engine = { ReplayEngine.reset with regs := some (configuredRegs cfg) } ∧
    (st.configureNow cfg).peers = { PeerTable.reset with beatCounter := some 0 } ∧
    (st.configureNow cfg).link = RigLink.reset ∧ (st.configureNow cfg).drive = configuredDrive cfg ∧
    (st.configureNow cfg).sup.trackCount = 0 ∧
    (st.configureNow cfg).port = { st.port with
      reportInterval := some cfg.reportInterval.toNat, reportTimer := some 0, reportPending := false, reportTaken := false } := by
  unfold configureNow estopRises takeTrip
  simp only [enterMode_eq]
  split <;> simp [Mode.isPermit, Mode.isMoving, ReplayEngine.reset, configuredRegs, Supervision.reset]

/-- Outside a configuration nothing is asked of I, and g stands unless CONFIGURE or a reset begins anew. -/
theorem Station.fade_increment_take (fade : st.fadeOk = true) (increment : st.incrementOk = true) (t : Taken st b) :
    b.fadeOk = true ∧ b.incrementOk = true := by
  cases t with
  | controller cfg config changes =>
    have kept : b.MotionIn cfg ∧ b.config = some cfg := by
      refine changes.keeps (P := fun x => x.MotionIn cfg ∧ x.config = some cfg) (fun hx change => ?_)
        ⟨(motionIn_iff config).mpr ⟨fade, increment⟩, config⟩
      exact ⟨hx.1.change change, change.config.trans hx.2⟩
    exact (motionIn_iff kept.2).mp kept.1
  | configure cfg mode =>
    obtain ⟨config, idle, engine, -⟩ := configureNow_blocks st cfg
    refine (motionIn_iff config).mp fun r hr => ?_
    rw [engine] at hr ⊢
    cases hr
    rw [idle]
    exact ⟨fadeIn_zero nofun, incrementIn_nominal cfg _⟩
  | segmentOpen id =>
    obtain ⟨v, table⟩ := setSegment_cases st id _
    exact table ▸ ⟨fade, increment⟩
  | segmentData id body m next samples =>
    obtain ⟨v, table⟩ := setSegment_cases { st with store := writeSamples st.store (body.firstPage * pageSize + m) samples } id _
    rw [table]
    exact ⟨fade, increment⟩
  | segmentDiscard id cut =>
    obtain ⟨c, remembered⟩ := setCut_cases st id cut
    obtain ⟨v, table⟩ := setSegment_cases (st.setCut id cut) id .empty
    rw [table, remembered]
    exact ⟨fade, increment⟩
  | setLevel r target regs =>
    refine ⟨fadeOk_iff.mpr fun x hx => ?_, ?_⟩
    · cases hx
      exact fadeOk_iff.mp fade r regs
    · obtain config | ⟨cfg, config⟩ := Option.eq_none_or_eq_some st.config
      · simp [incrementOk, config]
      · refine (incrementOk_iff (cfg := cfg) ?_).mpr fun x hx => ?_
        · exact config
        · cases hx
          exact (incrementOk_iff config).mp increment r regs
  | _ => exact ⟨fade, increment⟩

theorem Station.reset_fade_increment : Station.reset.fadeOk = true ∧ Station.reset.incrementOk = true := by decide

theorem Station.fade_increment_turn (fade : st.fadeOk = true) (increment : st.incrementOk = true) (turn : Turn st b) :
    b.fadeOk = true ∧ b.incrementOk = true := by
  cases turn with
  | change cfg config change =>
    exact fade_increment_take fade increment (.controller cfg config change.chain)
  | take taken => exact fade_increment_take fade increment taken
  | port | estopLine => exact ⟨fade, increment⟩
  | hardReset | softReset => exact Station.reset_fade_increment

end

/-- Settles O56: every turn of a command keeps the fade gain and the increment in range. -/
theorem stepKeepsFadeAndIncrement : Obligations.StepKeepsFadeAndIncrement := by
  unfold Obligations.StepKeepsFadeAndIncrement
  exact fun _ _ fade increment stepped => step_keeps_of_turn (P := fun x => x.fadeOk = true ∧ x.incrementOk = true)
    (fun h turn => Station.fade_increment_turn h.1 h.2 turn) ⟨fade, increment⟩ stepped

end Sys2Proof.Machine
end
section
/-! THE SLOTS AND THE PEER ENTRIES (R74, R91, R98, R100, R125 to R137). Of the Station Controller only the state matters to
the slots: a change of state outside IDLE and TRIPPED asks nothing of them. -/

namespace Sys2Proof.Machine

/-! ### The slots -/

section
variable {st b : Station} {cfg : ConfigRecord} {m n : Mode} {l : RigLink}

/-- What the rules ask of the slots in a state. -/
def LinkIn (m : Mode) (l : RigLink) : Prop :=
  latchOk .trip l.tripSlot l.attempt ∧ latchOk .control l.controlSlot l.attempt ∧
  (m = Mode.tripped → l.controlSlot = none) ∧ (m = Mode.idle → isGo l.controlSlot = false ∧ isResume l.controlSlot = false) ∧
  l.aborts ≤ 15 ∧ l.linkErrors ≤ 65535 ∧ (l.ownAborted → l.attempt = none)

theorem Station.slotsOk_iff : st.SlotsOk ↔ LinkIn st.ctl.mode st.link ∧ (st.config = none → st.link = RigLink.reset) := by
  unfold Station.SlotsOk LinkIn
  tauto

/-- With no attempt under way nothing is latched (R130). -/
theorem unlatched_of_latchOk {slot : SlotName} {f : SlotFrame} {attempt : Option Attempt} (h : latchOk slot (some f) attempt = true)
    (other : ∀ a, attempt = some a → a.slot ≠ slot) : f.latched = false := by
  cases attempt with
  | none => simpa [latchOk] using h
  | some a => simpa [latchOk, other a rfl] using h

theorem latchOk_of_unlatched {slot : SlotName} {f : Option SlotFrame} {attempt : Option Attempt}
    (h : ∀ x, f = some x → x.latched = false) : latchOk slot f attempt = true := by
  cases f with
  | none => rfl
  | some x => simp [latchOk, h x rfl]

theorem latchOk_map_unlatch (slot : SlotName) (f : Option SlotFrame) (attempt : Option Attempt) :
    latchOk slot (f.map (SlotFrame.withLatch false)) attempt = true := by
  refine latchOk_of_unlatched fun x hx => ?_
  obtain ⟨y, -, rfl⟩ := Option.map_eq_some_iff.mp hx
  rfl

@[simp] theorem isGo_withLatch (latched : Bool) (f : SlotFrame) : isGo (some (f.withLatch latched)) = isGo (some f) := by
  obtain ⟨body, -⟩ := f
  cases body <;> rfl

@[simp] theorem isResume_withLatch (latched : Bool) (f : SlotFrame) : isResume (some (f.withLatch latched)) = isResume (some f) := by
  obtain ⟨body, -⟩ := f
  cases body <;> rfl

/-- A state other than IDLE and TRIPPED asks nothing of the slots of its own. -/
theorem LinkIn.enter (h : LinkIn m l) (n : Mode) (ordinary : n ≠ .tripped ∧ n ≠ .idle) : LinkIn n l := by
  obtain ⟨trip, control, -, -, rest⟩ := h
  exact ⟨trip, control, fun hn => absurd hn ordinary.1, fun hn => absurd hn ordinary.2, rest⟩

/-- An empty CONTROL slot suits every state. -/
theorem LinkIn.emptied (h : LinkIn m l) (n : Mode) : LinkIn n { l with controlSlot := none } := by
  obtain ⟨trip, -, -, -, rest⟩ := h
  exact ⟨trip, rfl, fun _ => rfl, fun _ => ⟨rfl, rfl⟩, rest⟩

theorem LinkIn.placed (h : LinkIn m l) (body : FrameBody) (ordinary : m ≠ .tripped ∧ m ≠ .idle) :
    LinkIn m { l with controlSlot := some { body := body, latched := false } } := by
  obtain ⟨trip, -, -, -, rest⟩ := h
  exact ⟨trip, rfl, fun hm => absurd hm ordinary.1, fun hm => absurd hm ordinary.2, rest⟩

theorem LinkIn.placedTrip (h : LinkIn m l) (body : FrameBody) :
    LinkIn m { l with tripSlot := some { body := body, latched := false } } := by
  obtain ⟨-, rest⟩ := h
  exact ⟨rfl, rest⟩

/-- An idle point latches a slot that no attempt holds (R129, R130). -/
theorem LinkIn.begin (h : LinkIn st.ctl.mode st.link) (attempt : st.link.attempt = none) (aborted : st.link.ownAborted = false) :
    LinkIn st.ctl.mode (st.beginAttempt cfg).link := by
  obtain ⟨trip, control, tripped, idle, aborts, errors, -⟩ := h
  have controlUnlatched (f : SlotFrame) (hf : st.link.controlSlot = some f) : f.latched = false :=
    unlatched_of_latchOk (hf ▸ control) (by simp [attempt])
  have line (a : Attempt) : st.link.ownAborted = true → some a = none := by simp [aborted]
  unfold Station.beginAttempt
  split
  · next f hf =>
    exact ⟨by simp [latchOk, SlotFrame.withLatch], latchOk_of_unlatched controlUnlatched, tripped, idle, aborts, errors, line _⟩
  · next f ht hc =>
    refine ⟨by simp [ht, latchOk], by simp [latchOk, SlotFrame.withLatch], fun hm => ?_, fun hm => ?_, aborts, errors, line _⟩
    · simp [tripped hm] at hc
    · simpa [hc] using idle hm
  · next ht hc _ => exact ⟨by simp [ht, latchOk], by simp [hc, latchOk], tripped, idle, aborts, errors, line _⟩
  · exact ⟨trip, control, tripped, idle, aborts, errors, by simp [attempt]⟩

theorem LinkIn.ended (h : LinkIn m l) (aborted : Bool) : LinkIn m { l with
    attempt := none, ownAborted := aborted, tripSlot := l.tripSlot.map (SlotFrame.withLatch false)
    controlSlot := l.controlSlot.map (SlotFrame.withLatch false) } := by
  obtain ⟨-, -, tripped, idle, aborts, errors, -⟩ := h
  refine ⟨latchOk_map_unlatch _ _ _, latchOk_map_unlatch _ _ _, fun hm => by simp [tripped hm], fun hm => ?_, aborts, errors,
    fun _ => rfl⟩
  cases hc : l.controlSlot with
  | none => exact ⟨rfl, rfl⟩
  | some f => simpa [hc] using idle hm

/-- A slot emptied under R130 holds what it held, unlatched, or nothing. -/
theorem afterCompletion_cases (f : Option SlotFrame) :
    afterCompletion f = none ∨ ∃ x, f = some x ∧ x.latched = false ∧ afterCompletion f = f := by
  cases f with
  | none => exact .inl rfl
  | some x => cases hx : x.latched <;> simp [afterCompletion, hx]

theorem LinkIn.completed (h : LinkIn st.ctl.mode st.link) {a : Attempt} (attempt : st.link.attempt = some a) :
    LinkIn st.ctl.mode (st.completeAttempt a).link := by
  obtain ⟨trip, control, tripped, idle, -, errors, aborted⟩ := h
  have tripUnlatched (hs : a.slot ≠ .trip) (x) (hx : st.link.tripSlot = some x) : x.latched = false :=
    unlatched_of_latchOk (hx ▸ trip) (by rintro b hb; cases attempt.symm.trans hb; exact hs)
  have controlUnlatched (hs : a.slot ≠ .control) (x) (hx : st.link.controlSlot = some x) : x.latched = false :=
    unlatched_of_latchOk (hx ▸ control) (by rintro b hb; cases attempt.symm.trans hb; exact hs)
  have emptied (slot : SlotName) (f : Option SlotFrame) : latchOk slot (afterCompletion f) none = true := by
    refine latchOk_of_unlatched fun x hx => ?_
    obtain empty | ⟨y, hy, unlatched, kept⟩ := afterCompletion_cases f
    · simp [empty] at hx
    · rw [kept, hy] at hx
      cases hx
      exact unlatched
  unfold Station.completeAttempt
  cases hs : a.slot with
  | trip => 
    exact ⟨emptied _ _, latchOk_of_unlatched (controlUnlatched (by simp [hs])), tripped, idle, Nat.zero_le _, errors, fun _ => rfl⟩
  | control =>
    refine ⟨latchOk_of_unlatched (tripUnlatched (by simp [hs])), emptied _ _, fun hm => by simp [tripped hm, afterCompletion],
      fun hm => ?_, Nat.zero_le _, errors, fun _ => rfl⟩
    obtain empty | ⟨y, -, -, kept⟩ := afterCompletion_cases st.link.controlSlot
    · simp [empty, isGo, isResume]
    · simpa [kept] using idle hm
  | beat =>
    exact ⟨latchOk_of_unlatched (tripUnlatched (by simp [hs])), latchOk_of_unlatched (controlUnlatched (by simp [hs])), tripped,
      idle, Nat.zero_le _, errors, fun _ => rfl⟩

/-! ### The slots under every change -/

/-- The slots as the station's state asks for them. -/
abbrev Station.LinkOk (st : Station) : Prop := LinkIn st.ctl.mode st.link

theorem Station.enterMode_linkOk (link : LinkIn m st.link) (ordinary : n ≠ .tripped ∧ n ≠ .idle) :
    (st.enterMode cfg n).LinkOk := by
  unfold Station.LinkOk
  rw [enterMode_mode, enterMode_link]
  exact link.enter n ordinary

variable (h : st.LinkOk)
include h

theorem Station.LinkOk.of_same (mode : b.ctl.mode = st.ctl.mode) (link : b.link = st.link) : b.LinkOk := by
  unfold Station.LinkOk
  rw [mode, link]
  exact h

theorem Station.LinkOk.enterMode (m : Mode) (ordinary : m ≠ .tripped ∧ m ≠ .idle) : (st.enterMode cfg m).LinkOk :=
  enterMode_linkOk h ordinary

theorem Station.LinkOk.startHold (ordinary : st.ctl.mode ≠ .tripped ∧ st.ctl.mode ≠ .idle) (r : HoldReason) (k : StationNo) :
    (st.startHold r k).LinkOk := by
  unfold Station.startHold
  simp only
  split
  · exact h
  · exact LinkIn.placed h _ ordinary

theorem Station.LinkOk.takeReason (r : HoldReason) (k : StationNo) : (st.takeReason cfg r k).LinkOk := by
  have joined : (st.insertReason r).LinkOk := h
  have held (m : Mode) (ordinary : m ≠ .tripped ∧ m ≠ .idle) : (((st.insertReason r).enterMode cfg m).startHold r k).LinkOk :=
    (joined.enterMode m ordinary).startHold (by rw [enterMode_mode]; exact ordinary) r k
  unfold Station.takeReason
  split <;> first | exact held _ (by split <;> decide) | exact held _ (by decide) | exact joined

theorem Station.LinkOk.takeTrip (cause : TripCause) (k : StationNo) : (st.takeTrip cfg cause k).LinkOk := by
  have entered (record : TripRecord) : (((({ st with ctl := { st.ctl with tripRecord := some record } } :
      Station).forceOffset cfg).emptyControl).enterMode cfg .tripped).LinkOk := by
    unfold Station.LinkOk
    rw [enterMode_mode, enterMode_link]
    exact LinkIn.emptied h _
  unfold Station.takeTrip
  split
  · have tripped := entered { cause := cause, origin := k, state := st.ctl.mode, position := st.positionNow }
    simp only
    generalize Station.enterMode _ cfg .tripped = x at tripped ⊢
    split
    · exact tripped
    · exact LinkIn.placedTrip tripped _
  · exact h

theorem Station.LinkOk.takeStepReport (r : StepReport) : (st.takeStepReport cfg r).LinkOk := by
  cases r with
  | nothing | passEnd => exact h
  | waitPark =>
    show (st.takeWaitPark cfg).LinkOk
    unfold Station.takeWaitPark
    split
    · exact LinkOk.enterMode (st := st.insertReason .wait) h _ (by decide)
    all_goals exact h.takeReason _ _
  | endPark =>
    show (st.takeEndPark cfg).LinkOk
    unfold Station.takeEndPark
    split
    · exact h.enterMode _ (by decide)
    · exact h

theorem Station.LinkOk.enterIdle : (st.enterIdle cfg).LinkOk := by
  unfold Station.LinkOk Station.enterIdle Station.dropGoAndResume
  simp only [enterMode_mode, enterMode_link]
  split
  · exact LinkIn.emptied h _
  · next other =>
    obtain ⟨trip, control, -, -, rest⟩ := h
    simp only [Bool.or_eq_true, not_or, Bool.not_eq_true] at other
    exact ⟨trip, control, nofun, fun _ => other, rest⟩

theorem Station.LinkOk.endRampOut : (st.endRampOut cfg).LinkOk := by
  unfold Station.endRampOut
  split
  · split <;> first | exact h | exact h.enterMode _ (by decide)
  · exact h

theorem Station.LinkOk.change (c : Change cfg st b) : b.LinkOk := by
  cases c with
  | takeReason r k => exact h.takeReason r k
  | takeTrip cause k => exact h.takeTrip cause k
  | enterIdle => exact h.enterIdle
  | arm | go | resume => exact enterMode_linkOk h (by decide)
  | expireCountdown =>
    unfold Station.expireCountdown
    split
    · exact h.enterMode _ (by decide)
    · exact h
  | endRampIn =>
    unfold Station.endRampIn
    split
    · exact h.enterMode _ (by decide)
    · exact h
  | endRampOut => exact h.endRampOut
  | countDown =>
    unfold Station.countDown
    split <;> exact h
  | step p => exact LinkOk.takeStepReport (st := st.setPosition (st.singleStep p).1) h _
  | compute m r =>
    obtain ⟨ctl, -, -, -, link, -⟩ := computeCommand_kept st cfg m r
    exact h.of_same (by rw [ctl]) link
  | emptyControl => exact LinkIn.emptied h _
  | placeControl body mode => exact LinkIn.placed h body (by rcases mode with hm | hm <;> rw [hm] <;> decide)
  | beginAttempt attempt aborted =>
    have mode : (st.beginAttempt cfg).ctl = st.ctl := by
      unfold Station.beginAttempt
      split <;> rfl
    unfold Station.LinkOk
    rw [mode]
    exact LinkIn.begin h attempt aborted
  | endAttempt => exact LinkIn.ended h st.link.ownAborted
  | stopAborted => exact LinkIn.ended h true
  | completeAttempt a attempt => exact LinkIn.completed h attempt
  | countAborts n bound =>
    obtain ⟨trip, control, tripped, idle, -, rest⟩ := h
    exact ⟨trip, control, tripped, idle, bound, rest⟩
  | abortOver =>
    obtain ⟨trip, control, tripped, idle, aborts, errors, -⟩ := h
    exact ⟨trip, control, tripped, idle, aborts, errors, nofun⟩
  | dropFrame =>
    obtain ⟨trip, control, tripped, idle, aborts, -, aborted⟩ := h
    exact ⟨trip, control, tripped, idle, aborts, Nat.min_le_left _ _, aborted⟩
  | _ => exact h

end

/-! ### The peer entries -/

section
variable {st b : Station} {cfg : ConfigRecord}

/-- What R98 and R100 ask of an entry. -/
def PeerEntry.InRange (x : PeerEntry) (limit : Nat) : Prop := x.age ≤ 65535 ∧ (x.fresh = true → x.age ≤ limit)

/-- What R98 and R100 ask of the entries in a configuration. -/
def PeersIn (cfg : ConfigRecord) (entries : Vector (Option PeerEntry) 24) : Prop :=
  entries[own cfg] = none ∧ ∀ (k : StationNo) (x : PeerEntry), entries[k] = some x → x.InRange (silenceLimit cfg)

theorem Station.peersOk_iff (config : st.config = some cfg) : st.peersOk = true ↔ PeersIn cfg st.peers.entries := by
  unfold peersOk PeersIn PeerEntry.InRange peer
  rw [config]
  simp only [Bool.and_eq_true, Option.isNone_iff_eq_none, Vector.all_eq_true, Option.all_eq_true, decide_eq_true_eq,
    Bool.or_eq_true, Bool.not_eq_true', ← Bool.not_eq_true, ← imp_iff_not_or]
  exact and_congr_right fun _ => ⟨fun h k x hx => h k.val k.isLt x hx, fun h i hi x hx => h ⟨i, hi⟩ x hx⟩

/-- Entries written one by one: none for the own number, each in its range (R98, R100). -/
theorem PeersIn.map {entries : Vector (Option PeerEntry) 24} (h : PeersIn cfg entries) (f : PeerEntry → PeerEntry)
    (keeps : ∀ x : PeerEntry, x.InRange (silenceLimit cfg) → (f x).InRange (silenceLimit cfg)) :
    PeersIn cfg (entries.map fun e => e.map f) := by
  obtain ⟨none, range⟩ := h
  refine ⟨?_, fun k x hx => ?_⟩
  · simp only [Fin.getElem_fin, Vector.getElem_map, Option.map_eq_none_iff]
    exact none
  simp only [Fin.getElem_fin, Vector.getElem_map, Option.map_eq_some_iff] at hx
  obtain ⟨y, hy, rfl⟩ := hx
  exact keeps y (range k y hy)

theorem PeersIn.set {entries : Vector (Option PeerEntry) 24} (h : PeersIn cfg entries) {k : StationNo} (other : k ≠ own cfg)
    {e : PeerEntry} (range : e.InRange (silenceLimit cfg)) : PeersIn cfg (entries.set k (some e)) := by
  obtain ⟨none, ranges⟩ := h
  refine ⟨?_, fun i x hx => ?_⟩
  · simp only [Fin.getElem_fin, Vector.getElem_set, if_neg (Fin.val_ne_iff.mpr other)]
    exact none
  · simp only [Fin.getElem_fin, Vector.getElem_set] at hx
    split at hx
    · cases hx
      exact range
    · exact ranges i x hx

theorem PeerEntry.InRange.aged {x : PeerEntry} {limit : Nat} : (x.aged limit).InRange limit :=
  ⟨Nat.min_le_left _ _, fun fresh => by simp [PeerEntry.aged] at fresh ⊢; exact fresh.2⟩

/-- A report of the Schedule leaves the Peer Table and the Supervision Unit. -/
theorem Station.takeStepReport_peers_sup (st : Station) (cfg : ConfigRecord) (r : StepReport) :
    (st.takeStepReport cfg r).peers = st.peers ∧ (st.takeStepReport cfg r).sup = st.sup := by
  have reason (x : Station) : (x.reportReason cfg .wait).peers = x.peers ∧ (x.reportReason cfg .wait).sup = x.sup :=
    ⟨(takeReason_kept x cfg _ _).2.1, (takeReason_kept x cfg _ _).1⟩
  cases r with
  | nothing | passEnd => exact ⟨rfl, rfl⟩
  | waitPark =>
    show (st.takeWaitPark cfg).peers = _ ∧ (st.takeWaitPark cfg).sup = _
    unfold Station.takeWaitPark
    split
    · simp [insertReason]
    all_goals exact reason st
  | endPark =>
    show (st.takeEndPark cfg).peers = _ ∧ (st.takeEndPark cfg).sup = _
    unfold Station.takeEndPark
    split <;> simp

/-- The entries in their ranges, in the configuration in force. -/
abbrev Station.EntriesIn (cfg : ConfigRecord) (st : Station) : Prop := PeersIn cfg st.peers.entries

variable (h : st.EntriesIn cfg)
include h

theorem Station.EntriesIn.of_same (peers : b.peers = st.peers) : b.EntriesIn cfg := by
  unfold Station.EntriesIn
  rw [peers]
  exact h

theorem Station.EntriesIn.change (c : Change cfg st b) : b.EntriesIn cfg := by
  cases c with
  | peersAside p entries => exact (show PeersIn cfg p.entries from entries ▸ h)
  | takeReason r k => exact h.of_same (takeReason_kept st cfg r k).2.1
  | takeTrip cause k => exact h.of_same (takeTrip_kept st cfg cause k).2.1
  | enterIdle =>
    refine h.of_same ?_
    unfold Station.enterIdle dropGoAndResume
    rw [enterMode_peers]
    split <;> rfl
  | arm => exact h.of_same (by unfold Station.armNow; rw [enterMode_peers])
  | go =>
    refine EntriesIn.of_same (st := st.zeroFade.clearRunMarks) ?_ (by unfold Station.beginCountdown; rw [enterMode_peers]; rfl)
    exact PeersIn.map h _ fun x hx => hx
  | resume => exact h.of_same (by unfold Station.beginCountdown; rw [enterMode_peers]; rfl)
  | expireCountdown =>
    unfold Station.expireCountdown
    split
    · exact h.of_same (enterMode_peers ..)
    · exact h
  | endRampIn =>
    unfold Station.endRampIn
    split
    · exact h.of_same (enterMode_peers ..)
    · exact h
  | endRampOut =>
    unfold Station.endRampOut
    split
    · split <;> exact h
    · exact h
  | countDown =>
    unfold Station.countDown
    split <;> exact h
  | step p =>
    exact EntriesIn.of_same (st := st.setPosition (st.singleStep p).1) h (takeStepReport_peers_sup _ cfg _).1
  | compute m r => exact h.of_same (computeCommand_kept st cfg m r).2.2.2.1
  | age => exact PeersIn.map h _ fun x _ => .aged
  | enterBeat k other f runGroup kept => exact PeersIn.set h other ⟨Nat.zero_le _, fun _ => Nat.zero_le _⟩
  | recordControl k e seen entry =>
    refine PeersIn.set h ?_ (h.2 k e entry)
    rintro rfl
    cases h.1.symm.trans entry
  | beginAttempt =>
    unfold Station.beginAttempt
    split <;> exact h
  | completeAttempt a =>
    exact h.of_same rfl
  | _ => exact h

end

/-! ### The requests and the turns -/

section
variable {st b : Station}

/-- The slots and the entries together, as O58 states them. -/
abbrev Station.LinkAndPeersOk (st : Station) : Prop := st.SlotsOk ∧ st.peersOk = true

/-- Where the state, the configuration, the slots and the Peer Table stand, so do their invariants. -/
theorem Station.LinkAndPeersOk.of_same (h : st.LinkAndPeersOk) (config : b.config = st.config) (mode : b.ctl.mode = st.ctl.mode)
    (link : b.link = st.link) (peers : b.peers = st.peers) : b.LinkAndPeersOk := by
  unfold Station.LinkAndPeersOk Station.SlotsOk Station.peersOk Station.peer at h ⊢
  rw [config, mode, link, peers]
  exact h

theorem Station.LinkAndPeersOk.of_configured {cfg : ConfigRecord} (config : st.config = some cfg) (link : st.LinkOk)
    (entries : st.EntriesIn cfg) : st.LinkAndPeersOk :=
  ⟨slotsOk_iff.mpr ⟨link, fun unconfigured => by cases config.symm.trans unconfigured⟩, (peersOk_iff config).mpr entries⟩

variable (h : st.LinkAndPeersOk)
include h

theorem Station.LinkAndPeersOk.take (t : Taken st b) : b.LinkAndPeersOk := by
  cases t with
  | controller cfg config changes =>
    have kept : b.config = some cfg ∧ b.LinkOk ∧ b.EntriesIn cfg := by
      refine changes.keeps (P := fun x => x.config = some cfg ∧ x.LinkOk ∧ x.EntriesIn cfg) (fun hx change => ?_)
        ⟨config, (slotsOk_iff.mp h.1).1, (peersOk_iff config).mp h.2⟩
      exact ⟨change.config.trans hx.1, hx.2.1.change change, hx.2.2.change change⟩
    exact .of_configured kept.1 kept.2.1 kept.2.2
  | configure cfg =>
    obtain ⟨config, idle, -, peers, link, -⟩ := configureNow_blocks st cfg
    refine .of_configured config ?_ ?_
    · unfold Station.LinkOk
      rw [idle, link]
      exact ⟨rfl, rfl, fun _ => rfl, fun _ => ⟨rfl, rfl⟩, Nat.zero_le _, Nat.zero_le _, nofun⟩
    · unfold Station.EntriesIn
      rw [peers]
      exact ⟨Vector.getElem_replicate _, fun k x hx => by simp [PeerTable.reset] at hx⟩
  | segmentOpen id =>
    obtain ⟨v, table⟩ := setSegment_cases st id _
    exact h.of_same (by rw [table]) (by rw [table]) (by rw [table]) (by rw [table])
  | segmentData id body m next samples =>
    obtain ⟨v, table⟩ := setSegment_cases { st with store := writeSamples st.store (body.firstPage * pageSize + m) samples } id _
    rw [table]
    exact h.of_same rfl rfl rfl rfl
  | segmentDiscard id cut =>
    obtain ⟨c, remembered⟩ := setCut_cases st id cut
    obtain ⟨v, table⟩ := setSegment_cases (st.setCut id cut) id .empty
    rw [table, remembered]
    exact h.of_same rfl rfl rfl rfl
  | _ => exact h

omit h in
theorem Station.reset_linkAndPeersOk : Station.reset.LinkAndPeersOk :=
  ⟨by decide, by simp [peersOk, reset, PeerTable.reset]⟩

theorem Station.LinkAndPeersOk.turn (turn : Turn st b) : b.LinkAndPeersOk := by
  cases turn with
  | change cfg config change => exact h.take (.controller cfg config change.chain)
  | take taken => exact h.take taken
  | port | estopLine => exact h
  | hardReset | softReset => exact Station.reset_linkAndPeersOk

end

/-- Settles O58: every turn of a command keeps the slots and the peer entries in order. -/
theorem stepKeepsLinkAndPeers : Obligations.StepKeepsLinkAndPeers := by
  unfold Obligations.StepKeepsLinkAndPeers
  exact fun _ _ slots peers stepped =>
    step_keeps_of_turn (P := Station.LinkAndPeersOk) (fun h turn => h.turn turn) ⟨slots, peers⟩ stepped

end Sys2Proof.Machine
end
section
/-! COUNTERS AND QUEUES (R54, R139 to R152, R164, R171 to R179, R185). The counters of the blocks are kept turn by turn. The
host port's own invariant is broken and mended inside one command, so it is followed through each of its operations: a frame
that joins or is sent unsettles the port, and the transmitter's next frame with two services settles it again. -/

namespace Sys2Proof.Machine

/-! ### The counters of the drive line, the Supervision Unit and the Replay Engine -/

section
variable {st b : Station} {cfg : ConfigRecord}

/-- The counters of the blocks in the configuration in force. -/
structure Station.CountIn (cfg : ConfigRecord) (st : Station) : Prop where
  sideQueue : st.drive.sideQueue.length ≤ sideCapacity
  sideLoss : st.drive.sideLoss ≤ 255
  silence : st.drive.silence.getD 0 ≤ silenceBound
  track : st.sup.trackCount < cfg.trackingCount.toNat
  refresh : st.drive.refresh.getD 0 < cfg.refreshInterval.toNat
  clamps : st.engine.clampCount ≤ 4294967295
  rates : st.engine.rateCount ≤ 4294967295

theorem Station.CountIn.of_same (h : st.CountIn cfg) (drive : b.drive = st.drive)
    (track : b.sup.trackCount = st.sup.trackCount) (engine : b.engine.clampCount = st.engine.clampCount ∧
      b.engine.rateCount = st.engine.rateCount) : b.CountIn cfg := by
  obtain ⟨sideQueue, sideLoss, silence, below, refresh, clamps, rates⟩ := h
  exact ⟨drive ▸ sideQueue, drive ▸ sideLoss, drive ▸ silence, track ▸ below, drive ▸ refresh, engine.1 ▸ clamps,
    engine.2 ▸ rates⟩

/-- The two counts of the engine. -/
abbrev Station.SameCounts (a b : Station) : Prop :=
  a.engine.clampCount = b.engine.clampCount ∧ a.engine.rateCount = b.engine.rateCount

theorem Station.enterMode_counts (m : Mode) : (st.enterMode cfg m).SameCounts st := by
  rw [enterMode_eq]
  exact ⟨rfl, rfl⟩

theorem Station.takeReason_counts (r : HoldReason) (k : StationNo) : (st.takeReason cfg r k).SameCounts st := by
  have held (x : Station) (m : Mode) : ((x.enterMode cfg m).startHold r k).SameCounts x := by
    unfold SameCounts
    rw [startHold_engine]
    exact enterMode_counts m
  unfold takeReason
  split <;> first | exact ⟨rfl, rfl⟩ | exact held _ _

theorem Station.takeTrip_counts (cause : TripCause) (k : StationNo) : (st.takeTrip cfg cause k).SameCounts st := by
  have entered (x : Station) : (x.enterMode cfg .tripped).SameCounts x := enterMode_counts _
  unfold takeTrip
  split
  · simp only
    split <;> exact entered _
  · exact ⟨rfl, rfl⟩

theorem Station.takeStepReport_counts (r : StepReport) : (st.takeStepReport cfg r).SameCounts st := by
  cases r with
  | nothing | passEnd => exact ⟨rfl, rfl⟩
  | waitPark =>
    show (st.takeWaitPark cfg).SameCounts st
    unfold takeWaitPark
    split
    · exact enterMode_counts _
    all_goals exact takeReason_counts _ _
  | endPark =>
    show (st.takeEndPark cfg).SameCounts st
    unfold takeEndPark
    split
    · exact enterMode_counts _
    · exact ⟨rfl, rfl⟩

variable (h : st.CountIn cfg)
include h

theorem Station.CountIn.enterMode (m : Mode) : (st.enterMode cfg m).CountIn cfg :=
  h.of_same (enterMode_drive ..) (by rw [enterMode_sup]) (enterMode_counts m)

/-- A count of 32 bits saturates (R54). -/
theorem Station.CountIn.computeCommand (m : Mode) (r : EngineRegs) : (st.computeCommand cfg m r).CountIn cfg := by
  have noted (clamped limited : Bool) : ((st.noteClamp clamped).noteRate limited).CountIn cfg := by
    obtain ⟨sideQueue, sideLoss, silence, below, refresh, clamps, rates⟩ := h
    have counted (n : Nat) : countUp n ≤ 4294967295 := Nat.min_le_left _ _
    cases clamped <;> cases limited <;>
      exact ⟨sideQueue, sideLoss, silence, below, refresh, by first | exact clamps | exact counted _,
        by first | exact rates | exact counted _⟩
  unfold Station.computeCommand
  by_cases hm : m = .tripped
  · rw [if_pos hm]
    exact h.of_same rfl rfl ⟨rfl, rfl⟩
  · simp only [if_neg hm]
    split <;> exact (noted _ _).of_same rfl rfl ⟨rfl, rfl⟩

theorem Station.CountIn.change (c : Change cfg st b) : b.CountIn cfg := by
  obtain ⟨sideQueue, sideLoss, silence, below, refresh, clamps, rates⟩ := id h
  cases c with
  | supAside u trackCount => exact h.of_same rfl trackCount ⟨rfl, rfl⟩
  | driveAside d queue loss count counter =>
    exact ⟨queue ▸ sideQueue, loss ▸ sideLoss, count ▸ silence, below, counter ▸ refresh, clamps, rates⟩
  | takeReason r k =>
    obtain ⟨-, -, -, -, -, -, -, -, drive, -⟩ := takeReason_same st cfg r k
    exact h.of_same drive (by rw [(takeReason_kept st cfg r k).1]) (takeReason_counts r k)
  | takeTrip cause k =>
    obtain ⟨-, -, -, -, -, -, -, -, drive, -⟩ := takeTrip_same st cfg cause k
    exact h.of_same drive (by rw [(takeTrip_kept st cfg cause k).1]) (takeTrip_counts cause k)
  | enterIdle =>
    unfold Station.enterIdle dropGoAndResume
    refine CountIn.enterMode ?_ _
    split <;> exact h.of_same rfl rfl ⟨rfl, rfl⟩
  | arm =>
    refine CountIn.enterMode ?_ _
    exact ⟨sideQueue, sideLoss, silence, by show 0 < _; omega, refresh, Nat.zero_le _, Nat.zero_le _⟩
  | go | resume =>
    refine CountIn.enterMode ?_ _
    exact h.of_same rfl rfl ⟨rfl, rfl⟩
  | expireCountdown =>
    unfold Station.expireCountdown
    split
    · exact h.enterMode _
    · exact h
  | endRampIn =>
    unfold Station.endRampIn
    split
    · exact h.enterMode _
    · exact h
  | endRampOut =>
    unfold Station.endRampOut
    split
    · split <;> first | exact h.enterMode _ | exact h
    · exact h
  | countDown =>
    unfold Station.countDown
    split
    · exact h.of_same rfl rfl ⟨rfl, rfl⟩
    · exact h
  | step p =>
    have placed : (st.setPosition (st.singleStep p).1).CountIn cfg := h.of_same rfl rfl ⟨rfl, rfl⟩
    obtain ⟨-, -, -, -, -, -, -, -, drive, -⟩ := takeStepReport_same (st.setPosition (st.singleStep p).1) cfg (st.singleStep p).2
    exact placed.of_same drive (by rw [(takeStepReport_peers_sup _ _ _).2]) (takeStepReport_counts _)
  | compute m r => exact h.computeCommand m r
  | beginAttempt =>
    unfold Station.beginAttempt
    split <;> exact h.of_same rfl rfl ⟨rfl, rfl⟩
  | heard => exact ⟨sideQueue, sideLoss, Nat.zero_le _, below, refresh, clamps, rates⟩
  | countSilence =>
    refine ⟨sideQueue, sideLoss, ?_, below, refresh, clamps, rates⟩
    show (st.drive.silence.map _).getD 0 ≤ silenceBound
    cases st.drive.silence with
    | none => exact Nat.zero_le _
    | some n => exact Nat.min_le_left _ _
  | countSideLoss => exact ⟨sideQueue, Nat.min_le_left _ _, silence, below, refresh, clamps, rates⟩
  | sendSide word rest queue =>
    rw [queue, List.length_cons] at sideQueue
    exact ⟨by show rest.length ≤ _; omega, sideLoss, silence, below, refresh, clamps, rates⟩
  | refresh n bound => exact ⟨sideQueue, sideLoss, silence, below, by show n < _; omega, clamps, rates⟩
  | track n bound => exact ⟨sideQueue, sideLoss, silence, by show n < _; omega, refresh, clamps, rates⟩
  | _ => exact h.of_same rfl rfl ⟨rfl, rfl⟩

end

/-- The counters beside the port's report timer, as the invariant states them. -/
def Station.BlocksCount (st : Station) : Prop :=
  st.drive.sideQueue.length ≤ sideCapacity ∧ st.drive.sideLoss ≤ 255 ∧ st.drive.silence.getD 0 ≤ silenceBound ∧
  (st.config.all fun cfg => decide (st.sup.trackCount < cfg.trackingCount.toNat)) ∧
  (st.config.all fun cfg => decide (st.drive.refresh.getD 0 < cfg.refreshInterval.toNat)) ∧
  st.engine.clampCount ≤ 4294967295 ∧ st.engine.rateCount ≤ 4294967295

section
variable {st b : Station} {cfg : ConfigRecord}

theorem Station.countersOk_iff : st.CountersOk ↔ st.BlocksCount ∧ st.port.reportTimerOk = true := by
  unfold CountersOk BlocksCount
  tauto

theorem Station.blocksCount_iff (config : st.config = some cfg) : st.BlocksCount ↔ st.CountIn cfg := by
  unfold BlocksCount
  rw [config]
  simp only [Option.all_some, decide_eq_true_eq]
  exact ⟨fun ⟨queue, loss, silence, track, refresh, clamps, rates⟩ => ⟨queue, loss, silence, track, refresh, clamps, rates⟩,
    fun ⟨queue, loss, silence, track, refresh, clamps, rates⟩ => ⟨queue, loss, silence, track, refresh, clamps, rates⟩⟩

/-- A legal record counts at least to 1 (R187). -/
theorem legalRecord_counts (legal : legalRecord cfg = true) : 1 ≤ cfg.trackingCount.toNat ∧ 1 ≤ cfg.refreshInterval.toNat := by
  have track := List.all_eq_true.mp legal (20, decide (1 ≤ cfg.trackingCount.toNat)) (by simp [recordChecks])
  have refresh := List.all_eq_true.mp legal (25, decide (1 ≤ cfg.refreshInterval.toNat ∧ cfg.refreshInterval.toNat ≤ 16))
    (by simp [recordChecks])
  exact ⟨of_decide_eq_true track, (of_decide_eq_true refresh).1⟩

variable (h : st.BlocksCount)
include h

theorem Station.BlocksCount.take (t : Taken st b) : b.BlocksCount := by
  cases t with
  | controller cfg config changes =>
    have kept : b.config = some cfg ∧ b.CountIn cfg := by
      refine changes.keeps (P := fun x => x.config = some cfg ∧ x.CountIn cfg) (fun hx change => ?_)
        ⟨config, (blocksCount_iff config).mp h⟩
      exact ⟨change.config.trans hx.1, hx.2.change change⟩
    exact (blocksCount_iff kept.1).mpr kept.2
  | configure cfg mode legal =>
    obtain ⟨config, -, engine, -, -, drive, track, -⟩ := configureNow_blocks st cfg
    obtain ⟨trackRoom, refreshRoom⟩ := legalRecord_counts (legalRecord_of_firstBadField legal)
    refine (blocksCount_iff config).mpr ?_
    constructor <;> simp only [drive, track, engine] <;>
      first | exact Nat.zero_le _ | exact trackRoom | exact refreshRoom
  | segmentOpen id =>
    obtain ⟨v, table⟩ := setSegment_cases st id _
    exact table ▸ h
  | segmentData id body m next samples =>
    obtain ⟨v, table⟩ := setSegment_cases { st with store := writeSamples st.store (body.firstPage * pageSize + m) samples } id _
    rw [table]
    exact h
  | segmentDiscard id cut =>
    obtain ⟨c, remembered⟩ := setCut_cases st id cut
    obtain ⟨v, table⟩ := setSegment_cases (st.setCut id cut) id .empty
    rw [table, remembered]
    exact h
  | sideSend word room =>
    obtain ⟨-, rest⟩ := h
    exact ⟨by simpa using room, rest⟩
  | _ => exact h

omit h in
theorem Station.reset_blocksCount : Station.reset.BlocksCount := by
  refine ⟨?_, ?_, ?_, rfl, rfl, ?_, ?_⟩ <;> exact Nat.zero_le _

theorem Station.BlocksCount.turn (turn : Turn st b) : b.BlocksCount := by
  cases turn with
  | change cfg config change => exact h.take (.controller cfg config change.chain)
  | take taken => exact h.take taken
  | port | estopLine => exact h
  | hardReset | softReset => exact Station.reset_blocksCount

end

end Sys2Proof.Machine
end
section
/-! THE HOST PORT (R171 to R179, R185). What a settled port is, what unsettles it, and what settles it again. -/

namespace Sys2Proof.Machine

/-! ### A settled port -/

/-- The buffers, the queues and the two timers in their ranges (R171, R174, R185). -/
structure HostPort.Bounded (p : HostPort) : Prop where
  buffers : p.buffers.length ≤ bufferCapacity
  busy : p.busy.length ≤ busyCapacity
  overrun : p.overrun ≤ 65535
  partialTimer : p.partialTimer.getD 0 < partialLimit
  collecting : p.partialTimer.isSome ↔ p.receiver ≠ .hunting
  report : p.reportTimerOk = true

/-- A frame in the buffers would be served: the reply place is empty and no reset is to come (R176, R179). -/
def HostPort.Open (p : HostPort) : Prop := p.reply = none ∧ p.resetting = false

/-- An IDLE transmitter has nothing to take (R178), and of an open port at most k frames wait. -/
structure HostPort.SettledTo (p : HostPort) (k : Nat) : Prop where
  bounded : p.Bounded
  idle : p.sending = none → p.reply = none ∧ p.busy = [] ∧ p.reportPending = false
  waiting : p.Open → p.buffers.length ≤ k

/-- A settled port: no frame waits at an open one. -/
abbrev HostPort.Settled (p : HostPort) : Prop := p.SettledTo 0

section
variable {p : HostPort} {k : Nat}

/-- An IDLE transmitter beside an empty reply place leaves the port open. -/
theorem HostPort.open_of_idle (idle : p.sending = none) (empty : p.reply = none) : p.Open := by
  simp [HostPort.Open, HostPort.resetting, idle, empty, isResetOk]

theorem HostPort.Settled.buffers_nil (h : p.Settled) (opened : p.Open) : p.buffers = [] :=
  List.eq_nil_of_length_eq_zero (Nat.le_zero.mp (h.waiting opened))

theorem Station.portOk_iff {st : Station} : st.PortOk ∧ st.port.reportTimerOk = true ↔ st.port.Settled := by
  constructor
  · rintro ⟨⟨buffers, busy, overrun, timer, collecting, idle, waiting⟩, report⟩
    refine ⟨⟨buffers, busy, overrun, timer, collecting, report⟩, fun hs => ?_, fun ⟨empty, still⟩ => ?_⟩
    · obtain ⟨reply, queue, pending, -⟩ := idle hs
      exact ⟨reply, queue, pending⟩
    · simp [waiting empty still]
  · intro h
    obtain ⟨⟨buffers, busy, overrun, timer, collecting, report⟩, idle, -⟩ := id h
    refine ⟨⟨buffers, busy, overrun, timer, collecting, fun hs => ?_, fun empty still => h.buffers_nil ⟨empty, still⟩⟩, report⟩
    obtain ⟨reply, queue, pending⟩ := idle hs
    exact ⟨reply, queue, pending, h.buffers_nil (HostPort.open_of_idle hs reply)⟩

/-- An answer leaves a sending transmitter, and what it leaves in the buffers waits no longer than before. -/
theorem HostPort.Bounded.answer (h : p.Bounded) (room : p.buffers.length ≤ k) (reply : HostReply) :
    (p.answer reply).SettledTo k := by
  obtain ⟨buffers, busy, overrun, timer, collecting, report⟩ := h
  rcases HostPort.answer_cases p reply with ⟨-, answered⟩ | ⟨sending, answered⟩ <;> rw [answered] <;>
    refine ⟨⟨buffers, busy, overrun, timer, collecting, report⟩, fun hs => ?_, fun _ => room⟩
  · cases hs
  · exact absurd hs sending

end

/-! ### Requests -/

section
variable {st b : Station}

/-- Of the port a request itself changes the report fields alone: CONFIGURE and REPORT-RATE begin the report timer anew
(R185, R189). -/
theorem Taken.port (t : Taken st b) : b.port = st.port ∨ ∃ (n : Nat) (pending : Bool), b.port = { st.port with
    reportInterval := some n, reportTimer := some 0, reportPending := pending, reportTaken := false } := by
  cases t with
  | controller cfg config changes => exact .inl (Changes.port changes)
  | configure cfg =>
    obtain ⟨-, -, -, -, -, -, -, port⟩ := Station.configureNow_blocks st cfg
    exact .inr ⟨_, _, port⟩
  | reportRate n pending => exact .inr ⟨n, pending, rfl⟩
  | segmentOpen id =>
    obtain ⟨v, table⟩ := Station.setSegment_cases st id _
    exact .inl (by rw [table])
  | segmentData id body m next samples =>
    obtain ⟨v, table⟩ := Station.setSegment_cases
      { st with store := writeSamples st.store (body.firstPage * pageSize + m) samples } id _
    exact .inl (by rw [table])
  | segmentDiscard id cut =>
    obtain ⟨c, remembered⟩ := Station.setCut_cases st id cut
    obtain ⟨v, table⟩ := Station.setSegment_cases (st.setCut id cut) id .empty
    exact .inl (by rw [table, remembered])
  | _ => exact .inl rfl

/-- A request served from a bounded port leaves no more frames waiting than before. -/
theorem Station.Answered.settledTo {k : Nat} (h : st.Answered b) (bounded : st.port.Bounded)
    (room : st.port.buffers.length ≤ k) : b.port.SettledTo k := by
  obtain ⟨taken, reply, take, rfl⟩ := h
  obtain same | ⟨n, pending, begun⟩ := take.port
  · exact HostPort.Bounded.answer (same ▸ bounded) (same ▸ room) reply
  · obtain ⟨buffers, busy, overrun, timer, collecting, -⟩ := bounded
    refine HostPort.Bounded.answer ?_ (begun ▸ room) reply
    rw [begun]
    exact ⟨buffers, busy, overrun, timer, collecting, decide_eq_true (Nat.zero_le (n * 64 - 1))⟩

/-! ### Settling -/

/-- The transmitter's next frame leaves it IDLE only where no source has one (R178). -/
theorem Station.transmitterTake_settledTo (h : st.port.Bounded) : st.transmitterTake.port.SettledTo bufferCapacity := by
  obtain ⟨buffers, busy, overrun, timer, collecting, report⟩ := id h
  unfold transmitterTake
  cases sending : st.port.sending with
  | some r => exact ⟨h, fun hs => by simp [sending] at hs, fun _ => buffers⟩
  | none =>
    cases reply : st.port.reply with
    | some r => exact ⟨⟨buffers, busy, overrun, timer, collecting, report⟩, nofun, fun _ => buffers⟩
    | none =>
      cases queue : st.port.busy with
      | cons kind rest =>
        rw [queue, List.length_cons] at busy
        refine ⟨⟨buffers, ?_, overrun, timer, collecting, report⟩, nofun, fun _ => buffers⟩
        exact Nat.le_of_succ_le busy
      | nil =>
        cases pending : st.port.reportPending with
        | true => exact ⟨⟨buffers, busy, overrun, timer, collecting, report⟩, nofun, fun _ => buffers⟩
        | false => exact ⟨h, fun _ => ⟨reply, queue, pending⟩, fun _ => buffers⟩

/-- A service takes one waiting frame, if the port is open (R176, R179). -/
theorem Station.serveWaiting_settledTo {k : Nat} (h : st.port.SettledTo (k + 1)) : st.serveWaiting.port.SettledTo k := by
  obtain ⟨bounded, idle, waiting⟩ := id h
  unfold serveWaiting
  split
  · next closed =>
    refine ⟨bounded, idle, fun ⟨empty, still⟩ => ?_⟩
    simp [empty, still] at closed
  · next opened =>
    have room := waiting (by simpa [HostPort.Open] using opened)
    cases queue : st.port.buffers with
    | nil => exact ⟨bounded, idle, fun _ => by simp [queue]⟩
    | cons f rest =>
      obtain ⟨buffers, busy, overrun, timer, collecting, report⟩ := bounded
      rw [queue, List.length_cons] at room buffers
      refine (serve_answered _ f).settledTo ⟨?_, busy, overrun, timer, collecting, report⟩ ?_
      · exact Nat.le_of_succ_le buffers
      · exact Nat.le_of_succ_le_succ room

/-- Two frames at most wait, and two services follow the transmitter (R171, R176, R178). -/
theorem Station.settlePort_settled (h : st.port.Bounded) : st.settlePort.port.Settled :=
  serveWaiting_settledTo (serveWaiting_settledTo (transmitterTake_settledTo h))

theorem Station.frameCompletes_settled (h : st.port.Bounded) (f : HostFrame) : (st.frameCompletes f).port.Settled := by
  refine settlePort_settled ?_
  obtain ⟨buffers, busy, overrun, timer, collecting, report⟩ := h
  unfold joinBuffers
  split_ifs with room queue
  · exact ⟨by simpa using room, busy, overrun, timer, collecting, report⟩
  · exact ⟨buffers, by simpa using queue, overrun, timer, collecting, report⟩
  · exact ⟨buffers, busy, Nat.min_le_left _ _, timer, collecting, report⟩

/-! ### The commands of the port -/

variable (h : st.port.Settled)
include h

theorem Station.hostRequest_settled (r : Request) : (st.hostRequest r).port.Settled := by
  unfold hostRequest
  split_ifs with running ready
  · refine (takeRequest_answered st r).settledTo h.bounded ?_
    simp only [HostPort.ready, Bool.and_eq_true, List.isEmpty_iff] at ready
    simp [ready.1.2]
  · exact frameCompletes_settled h.bounded _
  · exact h

/-- The receiver and its timer move without unsettling the rest of the port. -/
theorem HostPort.Settled.setReceiver {receiver : Receiver} {timer : Option Nat} (byteSeen : Bool)
    (range : timer.getD 0 < partialLimit) (collecting : timer.isSome ↔ receiver ≠ .hunting) :
    ({ st.port with receiver := receiver, partialTimer := timer, byteSeen := byteSeen } : HostPort).Settled := by
  obtain ⟨⟨buffers, busy, overrun, -, -, report⟩, idle, waiting⟩ := h
  exact ⟨⟨buffers, busy, overrun, range, collecting, report⟩, idle, waiting⟩

theorem Station.takeHostByte_settled (byte : Byte) : (st.takeHostByte byte).port.Settled := by
  have collects (bytes : List Byte) := HostPort.Settled.setReceiver h (receiver := .collecting bytes) (timer := some 0) true
    (by decide) (by simp)
  unfold takeHostByte
  split
  · split_ifs
    · exact collects _
    · exact HostPort.Settled.setReceiver h true h.bounded.partialTimer h.bounded.collecting
  · split
    · exact collects _
    · exact frameCompletes_settled (HostPort.Settled.setReceiver h (receiver := .hunting) (timer := none) true (by decide)
        (by simp)).bounded _

theorem Station.discardPartial_settled : st.discardPartial.port.Settled :=
  HostPort.Settled.setReceiver h (receiver := .hunting) (timer := none) st.port.byteSeen (by decide) (by simp)

/-- The partial-frame timer rises below its bound while a frame is collected (R174). -/
theorem Station.partialTick_settled : st.partialTick.port.Settled := by
  have collecting := h.bounded.collecting
  unfold partialTick
  simp only
  split_ifs with expires seen
  · exact HostPort.Settled.setReceiver h (receiver := .hunting) (timer := none) false (by decide) (by simp)
  · exact HostPort.Settled.setReceiver h false h.bounded.partialTimer h.bounded.collecting
  · refine HostPort.Settled.setReceiver h false ?_ (by simpa using collecting)
    cases timer : st.port.partialTimer with
    | none => exact Nat.zero_lt_succ _
    | some n =>
      cases receiver : st.port.receiver with
      | hunting => simp [timer, receiver] at collecting
      | collecting bytes => simpa [HostPort.partialExpires, timer, receiver, seen] using expires

/-- A report that falls due goes out at once from an IDLE transmitter (R178, R185). -/
theorem Station.reportFalls_settled (due : st.port.reportComesDue = true) : st.reportFalls.port.Settled := by
  obtain ⟨⟨buffers, busy, overrun, timer, collecting, report⟩, idle, waiting⟩ := h
  have begun : ({ st.port with reportTimer := some 0, reportPending := true } : HostPort).reportTimerOk = true := by
    cases interval : st.port.reportInterval with
    | none => simp [HostPort.reportComesDue, interval] at due
    | some n => simp [HostPort.reportTimerOk, interval]
  unfold reportFalls transmitterTake
  cases sending : st.port.sending with
  | some r => exact ⟨⟨buffers, busy, overrun, timer, collecting, begun⟩, fun hs => by simp [sending] at hs, waiting⟩
  | none =>
    obtain ⟨reply, queue, -⟩ := idle sending
    have opened := waiting (HostPort.open_of_idle sending reply)
    simp only [reply, queue, if_true]
    exact ⟨⟨buffers, Nat.zero_le _, overrun, timer, collecting, begun⟩, nofun, fun _ => opened⟩

theorem Station.reportTick_settled : st.reportTick.port.Settled := by
  obtain ⟨⟨buffers, busy, overrun, timer, collecting, report⟩, idle, waiting⟩ := id h
  unfold reportTick
  split_ifs with taken due still
  · exact ⟨⟨buffers, busy, overrun, timer, collecting, report⟩, idle, waiting⟩
  · exact reportFalls_settled h due
  · exact h
  · refine ⟨⟨buffers, busy, overrun, timer, collecting, ?_⟩, idle, waiting⟩
    cases interval : st.port.reportInterval with
    | none => cases now : st.port.reportTimer <;> simp [HostPort.reportTimerOk, interval, now] at report ⊢
    | some n =>
      cases now : st.port.reportTimer with
      | none => simp [HostPort.reportTimerOk, interval, now] at report
      | some t =>
        have counts : n ≠ 0 := fun hn => still (by rw [interval, hn])
        have below : t + 1 < n * 64 := by simpa [HostPort.reportComesDue, interval, now, counts] using due
        simp only [HostPort.reportTimerOk, interval, Option.map_some, decide_eq_true_eq]
        omega

omit h in
theorem HostPort.reset_settled : HostPort.reset.Settled :=
  ⟨⟨by decide, by decide, by decide, by decide, by decide, by decide⟩, fun _ => ⟨rfl, rfl, rfl⟩, fun _ => Nat.le_refl 0⟩

theorem Station.frameSent_settled : st.frameSent.port.Settled := by
  unfold frameSent
  split
  · exact h
  · split_ifs
    · exact HostPort.reset_settled
    · obtain ⟨buffers, busy, overrun, timer, collecting, report⟩ := h.bounded
      exact settlePort_settled ⟨buffers, busy, overrun, timer, collecting, report⟩

theorem Station.update_settled (inA inB : BitVec 48) : (st.update inA inB).port.Settled := by
  unfold update
  split_ifs
  · split
    · exact partialTick_settled h
    · rw [configuredUpdate_eq]
      refine reportTick_settled (partialTick_settled ?_)
      rw [Changes.port (blocksUpdate_changes st _ inA inB)]
      exact h
  · exact h

omit h in
theorem Effect.settled (h : st.port.Settled) (effect : Effect st b) : b.port.Settled := by
  have within {x y : Station} (hx : x.port.Settled) (hy : x.Within y) : y.port.Settled := by
    obtain rfl | ⟨cfg, -, changes⟩ := hy
    · exact hx
    · exact Changes.port changes ▸ hx
  cases effect with
  | within hb => exact within h hb
  | request r => exact Station.hostRequest_settled h r
  | frameCompletes f => exact Station.frameCompletes_settled h.bounded f
  | hostByte byte => exact Station.takeHostByte_settled h byte
  | discardPartial => exact Station.discardPartial_settled h
  | frameSent => exact Station.frameSent_settled h
  | reportFalls due =>
    obtain ⟨⟨buffers, busy, overrun, timer, collecting, report⟩, idle, waiting⟩ := h
    exact Station.reportFalls_settled (st := { st with port := { st.port with reportTaken := true } })
      ⟨⟨buffers, busy, overrun, timer, collecting, report⟩, idle, waiting⟩ due
  | update inA inB => exact Station.update_settled h inA inB
  | estopLine active hb => exact within (x := { st with estopLine := active }) h hb
  | hardReset | softReset => exact HostPort.reset_settled

end

/-- Settles O59: every turn keeps the counters of the blocks, and every command leaves the port settled. -/
theorem stepKeepsPortAndCounters : Obligations.StepKeepsPortAndCounters := by
  unfold Obligations.StepKeepsPortAndCounters
  intro s t port counters stepped
  obtain ⟨blocks, report⟩ := Station.countersOk_iff.mp counters
  have counted : t.station.BlocksCount := step_keeps_of_turn (P := Station.BlocksCount) (fun h turn => h.turn turn) blocks stepped
  have settled : t.station.port.Settled :=
    step_keeps_of_effect (P := fun x => x.port.Settled) Effect.settled (Station.portOk_iff.mp ⟨port, report⟩) stepped
  obtain ⟨portOk, reportOk⟩ := Station.portOk_iff.mpr settled
  exact ⟨portOk, Station.countersOk_iff.mpr ⟨counted, reportOk⟩⟩

end Sys2Proof.Machine
end
section
/-! THE MACHINE, RESET AND THE SHARED TAKINGS (O1 to O5). -/

namespace Sys2Proof.Machine

/-- Settles O1: the two branches of a step. -/
theorem stepRunsTheFrontCommand : Obligations.StepRunsTheFrontCommand := by
  refine ⟨fun c s => rfl, fun s idle => ?_⟩
  unfold step
  rw [idle]

/-- Settles O2: the reset values of each block, read off its definition. -/
theorem resetIsPowerOn : Obligations.ResetIsPowerOn := by
  have segments (i : Fin 64) : State.reset.station.segments[i] = .empty := Vector.getElem_replicate _
  have cuts (i : Fin 64) : State.reset.station.cutLoadings[i] = false := Vector.getElem_replicate _
  have peers (k : StationNo) : State.reset.station.peer k = none := Vector.getElem_replicate _
  unfold Obligations.ResetIsPowerOn
  simp only [segments, cuts, peers, implies_true, true_and]
  decide

/-- Settles O3: the values of reset meet the invariants, each by itself. -/
theorem resetMeetsEveryInvariant : Obligations.ResetMeetsEveryInvariant := by
  have link := Station.reset_linkAndPeersOk
  have port := Station.portOk_iff (st := Station.reset).mpr HostPort.reset_settled
  exact ⟨Station.reset_controllerOk, by decide, Station.hardReset_segmentsOk Station.reset, by decide, Station.reset_scheduleOk, by decide,
    Station.reset_fade_increment.1, by decide, by decide, Station.reset_fade_increment.2, link.1, link.2,
    Station.countersOk_iff.mpr ⟨Station.reset_blocksCount, port.2⟩, port.1⟩

/-! ### A hold reason and a trip cause -/

section
variable {st : Station} {cfg : ConfigRecord}

/-- The start of a hold, field by field, at a station with a position (R66, R67). -/
theorem Station.startHold_eq {p : Position} (position : st.engine.position = some p) (r : HoldReason) (k : StationNo) :
    st.startHold r k = { st with
      ctl := { st.ctl with
        holdRecord := some { first := r, origin := k, pass := p.pass, whole := p.whole, fraction := p.fraction } }
      link := if r = .peer ∨ r = .wait then st.link
        else { st.link with controlSlot := some { body := .hold (st.ctl.reasons.setWidth 16), latched := false } }
      events := st.events.raise .hold } := by
  have now : st.positionNow = p := by simp [positionNow, position]
  unfold startHold
  simp only [now]
  split <;> rfl

/-- A trip at a station with a position, field by field (R90, R91). -/
theorem Station.takeTrip_permit {p : Position} (position : st.engine.position = some p) (permit : st.ctl.mode.isPermit = true)
    (cause : TripCause) (k : StationNo) : st.takeTrip cfg cause k = { st with
      ctl := { st.ctl with
        mode := .tripped, permit := false, countdown := none
        tripRecord := some { cause := cause, origin := k, state := st.ctl.mode, position := p } }
      engine := { st.engine with
        regs := st.engine.regs.map fun x =>
          { x with fade := 0, command := offset cfg, commandPrev := offset cfg, increment := nominal cfg }
        offered := some { command := offset cfg, previous := offset cfg }, fadeEnd := none }
      link := { st.link with
        controlSlot := none
        tripSlot := if cause = .peerTrip then st.link.tripSlot
          else some { body := .trip (BitVec.ofNat 8 cause.code), latched := false } }
      events := (st.events.raise .state).raise .trip } := by
  have now : st.positionNow = p := by simp [positionNow, position]
  unfold takeTrip
  simp only [permit, now, if_true, enterMode_eq, forceOffset, emptyControl, Mode.isMoving, Bool.false_eq_true, if_false,
    Option.map_map]
  split <;> rfl

theorem Station.takeTrip_noPermit (noPermit : st.ctl.mode.isPermit = false) (cause : TripCause) (k : StationNo) :
    st.takeTrip cfg cause k = st := by
  simp [takeTrip, noPermit]

end

/-- Settles O4: the start of a hold in the states that a hold leaves, and one row of R65 for every other state. -/
theorem holdReasonTaken : Obligations.HoldReasonTaken := by
  unfold Obligations.HoldReasonTaken
  intro st cfg r origin
  refine ⟨fun p position => ?_, fun joins => ?_, fun ignores => ?_⟩
  · have started (m : Mode) : (((st.insertReason r).enterMode cfg m).startHold r origin) = _ :=
      Station.startHold_eq (by rw [Station.enterMode_position]; exact position) r origin
    simp only [Station.enterMode_eq, Station.insertReason] at started
    refine ⟨fun running => ⟨fun wait => ?_, fun other => ?_⟩, fun counting => ?_⟩
    · have taken : st.takeReason cfg r origin = ((st.insertReason r).enterMode cfg .rampOutParked).startHold r origin := by
        rcases running with hm | hm <;> simp [Station.takeReason, hm, wait]
      rw [taken, Station.enterMode_eq]
      exact started .rampOutParked
    · have taken : st.takeReason cfg r origin = ((st.insertReason r).enterMode cfg .rampOutMoving).startHold r origin := by
        rcases running with hm | hm <;> simp [Station.takeReason, hm, other]
      rw [taken, Station.enterMode_eq]
      exact started .rampOutMoving
    · have taken : st.takeReason cfg r origin = ((st.insertReason r).enterMode cfg .held).startHold r origin := by
        simp [Station.takeReason, counting]
      rw [taken, Station.enterMode_eq]
      exact started .held
  · rcases joins with hm | hm | hm | hm | hm <;> simp [Station.takeReason, hm, Station.insertReason, addReasonBit]
  · rcases ignores with hm | hm | hm | hm <;> simp [Station.takeReason, hm]

/-- Settles O5: the trip of R91 in a permit state, and R92 in every other. -/
theorem tripTaken : Obligations.TripTaken := by
  unfold Obligations.TripTaken
  exact fun st cfg cause origin => ⟨fun p position permit => Station.takeTrip_permit position permit cause origin,
    fun noPermit => Station.takeTrip_noPermit noPermit cause origin⟩

end Sys2Proof.Machine
end
section
/-! THE READING REQUESTS (R14, R23, R98, R102, R157, R180, R182, R192, R196). -/

namespace Sys2Proof.Machine

/-! ### The bytes of fields -/

@[simp] theorem length_leBytes (n v : Nat) : (leBytes n v).length = n := by
  induction n generalizing v with
  | zero => rfl
  | succ n ih => simp [leBytes, ih]

@[simp] theorem length_leSigned (n : Nat) (v : Int) : (leSigned n v).length = n := length_leBytes _ _

theorem leBytes_one (v : Nat) : leBytes 1 v = [BitVec.ofNat 8 v] := rfl

theorem leBytes_zero_succ (n : Nat) : leBytes (n + 1) 0 = 0#8 :: leBytes n 0 := rfl

/-- The presence word carries bit k of the field numbered k (R196). -/
theorem presenceWord_eq_sum (fields : List Bool) :
    presenceWord fields = ((List.range fields.length).map fun k => if fields.getD k false then 2 ^ k else 0).sum := by
  induction fields with
  | nil => rfl
  | cons b rest ih =>
    have doubled : (fun k => if (b :: rest).getD (k + 1) false then 2 ^ (k + 1) else 0) =
        fun k => 2 * (if rest.getD k false then 2 ^ k else 0) := by
      funext k
      simp only [List.getD_cons_succ]
      split <;> ring
    rw [presenceWord, ih, List.length_cons, List.range_succ_eq_map, List.map_cons, List.map_map, List.sum_cons,
      Function.comp_def, doubled, List.sum_map_mul_left]
    cases b <;> rfl

theorem length_holdRecordBytes (r : Option HoldRecord) : (holdRecordBytes r).length = 15 := by
  cases r <;> simp [holdRecordBytes]

theorem length_tripRecordBytes (r : Option TripRecord) : (tripRecordBytes r).length = 17 := by
  cases r <;> simp [tripRecordBytes]

/-! ### The taking of a reading request -/

theorem Station.answer_eq (st : Station) (kind : Byte) (code : ResultCode) (body : List Byte) :
    (st.port.sending = none →
      st.answer kind code body = { st with port := { st.port with sending := some { kind := kind, code := code, body := body } } }) ∧
    (st.port.sending ≠ none →
      st.answer kind code body = { st with port := { st.port with reply := some { kind := kind, code := code, body := body } } }) := by
  unfold answer HostPort.answer
  cases sending : st.port.sending <;> simp [sending]

theorem toNat_ofNat_stationNo (k : StationNo) : (BitVec.ofNat 8 k.val).toNat = k.val := by
  rw [BitVec.toNat_ofNat]
  exact Nat.mod_eq_of_lt (by omega)

section
variable (st : Station) (kind : Byte)

theorem Station.takePeerRead_noNumber {number : BitVec 8} (h : ¬ number.toNat < 24) :
    st.takePeerRead kind number = st.answer kind .badArg [] := dif_neg h

/-- The entry of a number, or the mark that it has none (R102). -/
def Station.answerEntry (k : StationNo) : Station :=
  match st.peer k with
  | none => st.answer kind .ok [0#8]
  | some e => st.answer kind .ok (1#8 :: e.body)

/-- PEER-READ of a station number (R102). -/
theorem Station.takePeerRead_number (k : StationNo) : st.takePeerRead kind (BitVec.ofNat 8 k.val) =
    match st.config with
    | none => st.answerEntry kind k
    | some cfg => if k = own cfg then st.answer kind .ok (st.ownRecordBody cfg) else st.answerEntry kind k := by
  have number := toNat_ofNat_stationNo k
  have range : (BitVec.ofNat 8 k.val).toNat < 24 := by rw [number]; exact k.isLt
  have same : (⟨(BitVec.ofNat 8 k.val).toNat, range⟩ : StationNo) = k := Fin.ext number
  unfold takePeerRead answerEntry
  simp only [dif_pos range, same]
  cases st.config <;> rfl

theorem Station.takePeerRead_own {cfg : ConfigRecord} (config : st.config = some cfg) :
    st.takePeerRead kind (BitVec.ofNat 8 (own cfg).val) = st.answer kind .ok (st.ownRecordBody cfg) := by
  simp only [takePeerRead_number, config, if_true]

theorem Station.takePeerRead_other {k : StationNo} (other : ∀ cfg : ConfigRecord, st.config = some cfg → k ≠ own cfg) :
    st.takePeerRead kind (BitVec.ofNat 8 k.val) = st.answerEntry kind k := by
  rw [takePeerRead_number]
  cases config : st.config with
  | none => rfl
  | some cfg => exact if_neg (other cfg config)

end

/-- Settles O6: each reading request that is served at once is its taking. -/
theorem readRequestsAnswer : Obligations.ReadRequestsAnswer := by
  unfold Obligations.ReadRequestsAnswer
  refine ⟨Station.answer_eq, fun s serves => ?_⟩
  have taken := exec_commandOf_serves serves
  refine ⟨taken .identify, taken .status, taken .eventsRead, fun id => ?_, fun index => ?_, fun number range => ?_,
    fun cfg config => ?_, fun k other => ⟨fun absent => ?_, fun e entry => ?_⟩⟩
  · refine (taken (.segmentInfo id)).trans ?_
    simp only [Station.takeRequest, Station.takeSegmentInfo, ← Bool.not_eq_true, isSegmentId_eq_true_iff]
    split_ifs <;> rfl
  · refine (taken (.playlistRead index)).trans ?_
    simp only [Station.takeRequest, Station.takePlaylistRead, Station.fingerprint?, Option.map_map]
    cases s.station.schedule.playlist[index.toNat]? <;> rfl
  · exact (taken (.peerRead number)).trans (by rw [Station.takeRequest, Station.takePeerRead_noNumber _ _ range]; rfl)
  · exact (taken (.peerRead _)).trans (by rw [Station.takeRequest, Station.takePeerRead_own _ _ config]; rfl)
  · exact (taken (.peerRead _)).trans (by rw [Station.takeRequest, Station.takePeerRead_other _ _ other, Station.answerEntry, absent]; rfl)
  · exact (taken (.peerRead _)).trans (by rw [Station.takeRequest, Station.takePeerRead_other _ _ other, Station.answerEntry, entry]; rfl)

/-! ### The bodies -/

theorem Station.absentable_present (st : Station) :
    let isOn := decide (st.ctl.mode ≠ .unconfigured)
    let p := st.engine.position
    let m := p.bind fun x => st.mapWhole x.whole
    let d := st.drive
    let v := st.sup
    st.absentable.map (·.1) =
      [st.ctl.countdown.isSome, isOn] ++ List.replicate 4 p.isSome ++ List.replicate 3 m.isSome ++
        List.replicate 6 st.engine.regs.isSome ++
        [d.force.isSome, d.displacement.isSome, d.ampStatus.isSome, d.answered.isSome, d.band.isSome, d.silence.isSome, isOn] ++
        [v.forceWindow.isSome, v.dispWindow.isSome, v.lastError.isSome, v.lastApplied.isSome, v.trippingStatus.isSome,
          v.estopTaken.isSome, st.port.reportInterval.isSome] := by
  have on {α : Type} (x : α) : (st.configured x).isSome = decide (st.ctl.mode ≠ .unconfigured) := by
    unfold configured
    split <;> simp_all
  simp only [absentable, controllerFields, replayFields, driveFields, supervisionFields, portFields, pictured, picturedSigned,
    List.map_cons, List.map_nil, Option.isSome_map, on, mappedNow, List.replicate, List.cons_append,
    List.nil_append]

theorem Station.length_statusBody (st : Station) : st.statusBody.length = 107 := by
  simp [statusBody, length_holdRecordBytes, length_tripRecordBytes, fieldBytesOf, controllerFields, replayFields, driveFields,
    supervisionFields, portFields, pictured, picturedSigned]

/-- A value of one byte that is absent in UNCONFIGURED, its byte zero there (R180, R196). -/
theorem Station.configured_byte (st : Station) (n : Nat) :
    st.configured n = if decide (st.ctl.mode ≠ .unconfigured) then some n else none := by
  unfold configured
  split <;> simp_all

/-- Settles O7: the bodies as their definitions lay them out, and the presence word as a sum of its bits. -/
theorem readBodiesSpellTheirFields : Obligations.ReadBodiesSpellTheirFields := by
  unfold Obligations.ReadBodiesSpellTheirFields
  refine ⟨fun st => ⟨st.length_statusBody, by simp, ?_⟩, fun id x pinned => ?_, fun st id => ?_, fun st cfg => rfl, fun e => ?_⟩
  · have present := st.absentable_present
    have clash : leBytes 1 ((st.configured st.ctl.clash.toNat).getD 0) =
        [boolByte (decide (st.ctl.mode ≠ .unconfigured) && st.ctl.clash)] := by
      rw [Station.configured_byte]
      cases decide (st.ctl.mode ≠ .unconfigured) <;> cases st.ctl.clash <;> rfl
    simp only at present
    unfold Station.statusBody
    rw [present, presenceWord_eq_sum]
    simp only [fieldBytesOf, Station.controllerFields, Station.replayFields, Station.driveFields, Station.supervisionFields,
      Station.portFields, pictured, picturedSigned, List.flatMap_cons, List.flatMap_nil, List.append_nil, clash, codeByte,
      List.append_assoc]
    simp only [Station.configured_byte, Station.mappedNow]
    congr 1
  · cases x <;> rfl
  · simp [Station.pinned, and_assoc]
  · have stale : boolByte (!e.fresh) = if e.fresh then 0#8 else 1#8 := by cases e.fresh <;> rfl
    unfold PeerEntry.body
    rw [stale]
    refine congrArg (HAppend.hAppend _) ?_
    rcases e.lastControl with _ | ⟨_ | _ | _ | _, _⟩ <;> rfl

end Sys2Proof.Machine
end
section
/-! CONFIGURE (R71, R166, R187 to R189). The checks of the record stand in index order, so the first that fails is the failing
one of lowest index. -/

namespace Sys2Proof.Machine

/-- In a list that rises, the first element of a kind is the least of that kind. -/
theorem find_least {α : Type} {below : α → α → Prop} {l : List α} {p : α → Bool} {x : α} (rising : l.Pairwise below)
    (mem : x ∈ l) (kind : p x = true) (least : ∀ y ∈ l, p y = true → ¬ below y x) : l.find? p = some x := by
  cases found : l.find? p with
  | none => exact absurd kind (List.find?_eq_none.mp found x mem)
  | some c =>
    obtain ⟨first, before, after, rfl, passed⟩ := List.find?_eq_some_iff_append.mp found
    rcases List.mem_append.mp mem with early | late
    · simpa [kind] using passed x early
    · rcases List.mem_cons.mp late with rfl | later
      · rfl
      · exact absurd (List.rel_of_pairwise_cons (List.pairwise_append.mp rising).2.1 later) (least c (by simp) first)

section
variable {r : ConfigRecord} {index : Nat}

theorem recordChecks_rising (r : ConfigRecord) : (recordChecks r).Pairwise fun a b => a.1 < b.1 := by
  have indices : (recordChecks r).map (·.1) =
      [1, 2, 3, 5, 6, 7, 8, 10, 11, 12, 13, 14, 16, 18, 19, 20, 25, 26, 27, 28, 31] := rfl
  have rising : ((recordChecks r).map (·.1)).Pairwise (· < ·) := by
    rw [indices]
    decide
  exact List.pairwise_map.mp rising

theorem firstBadField_eq_some (fails : (index, false) ∈ recordChecks r)
    (lowest : ∀ j, j < index → (j, false) ∉ recordChecks r) : firstBadField r = some index := by
  have first : (recordChecks r).find? (fun c => !c.2) = some (index, false) :=
    find_least (recordChecks_rising r) fails rfl fun c mem failing below => by
      obtain ⟨j, b⟩ := c
      obtain rfl : b = false := by simpa using failing
      exact lowest j below mem
  rw [firstBadField, first]
  rfl

theorem firstBadField_eq_none (passes : ∀ index, (index, false) ∉ recordChecks r) : firstBadField r = none := by
  simp only [firstBadField, Option.map_eq_none_iff, List.find?_eq_none]
  rintro ⟨j, b⟩ hc
  cases b with
  | false => exact absurd hc (passes j)
  | true => simp

/-- A field fails its check exactly outside its legal values (R187). -/
theorem mem_recordChecks_iff : (index, false) ∈ recordChecks r ↔
    (index = 1 ∧ 23 < r.stationNumber.toNat) ∨ (index = 2 ∧ 7 < r.group.toNat) ∨ (index = 3 ∧ 1 < r.role.toNat) ∨
    (index = 5 ∧ r.sampleRate.toNat ∉ [256, 512, 1024, 2048]) ∨ (index = 6 ∧ r.beatInterval.toNat ∉ [8, 16, 32]) ∨
    (index = 7 ∧ r.fadeLength.toNat < 512) ∨ (index = 8 ∧ (r.levelStep.toNat < 1 ∨ 1024 < r.levelStep.toNat)) ∨
    (index = 10 ∧ r.commandMin.toInt < -32767) ∨
    (index = 11 ∧ (r.commandMax.toInt < -32767 ∨ r.commandMax.toInt ≤ r.commandMin.toInt)) ∨
    (index = 12 ∧ (r.holdOffset.toInt < r.commandMin.toInt ∨ r.commandMax.toInt < r.holdOffset.toInt)) ∨
    (index = 13 ∧ (r.rateLimit.toNat < 1 ∨ 65534 < r.rateLimit.toNat)) ∨
    (index = 14 ∧ (r.slipLimit.toNat < 1 ∨ 64 < r.slipLimit.toNat)) ∨
    (index = 16 ∧ r.forceMax.toInt ≤ r.forceMin.toInt) ∨ (index = 18 ∧ r.dispMax.toInt ≤ r.dispMin.toInt) ∨
    (index = 19 ∧ r.trackingLimit = 0#16) ∨ (index = 20 ∧ r.trackingCount = 0#8) ∨
    (index = 25 ∧ (r.refreshInterval.toNat < 1 ∨ 16 < r.refreshInterval.toNat)) ∨ (index = 26 ∧ 1 < r.gainEnable.toNat) ∨
    (index = 27 ∧ r.threshold = 0#16) ∨ (index = 28 ∧ r.threshold.toNat ≤ r.hysteresis.toNat) ∨
    (index = 31 ∧ r.attentionMask.getLsbD 15 = true) := by
  have zero8 (x : BitVec 8) : x = 0#8 ↔ ¬ 1 ≤ x.toNat := by bv_omega
  have zero16 (x : BitVec 16) : x = 0#16 ↔ ¬ 1 ≤ x.toNat := by bv_omega
  simp only [recordChecks, List.mem_cons, Prod.mk.injEq, Bool.false_eq, decide_eq_false_iff_not, List.not_mem_nil, or_false,
    zero8, zero16, not_and_or, not_or, not_le, not_lt, beq_eq_false_iff_ne, ne_eq, Bool.not_eq_false]
  simp only [cMin, cMax, offset]

end

/-- An accepted CONFIGURE field by field, with an active ESTOP taken as becoming active in IDLE, where no trip is taken (R92,
R166, R189). -/
theorem Station.configureNow_eq (st : Station) (r : ConfigRecord) :
    let latched := if st.estopLine then st.events.latched ||| Event.state.bit ||| Event.estop.bit
      else st.events.latched ||| Event.state.bit
    let mask : Option EventBits := some (r.attentionMask.setWidth 15)
    st.configureNow r = { st with
        config := some r
        ctl := { mode := .idle, reasons := 0, holdRecord := none, tripRecord := none, countdown := none, clash := st.ctl.clash,
                 permit := false }
        engine :=
          { position := none, clampCount := 0, rateCount := 0, offered := none, fadeEnd := none
            regs := some { increment := r.sampleRate.toNat * 16, fade := 0, level := r.initialLevel.toNat,
                           target := r.initialLevel.toNat, command := r.holdOffset.toInt, commandPrev := r.holdOffset.toInt } }
        peers := { PeerTable.reset with beatCounter := some 0 }
        link := RigLink.reset
        drive := { DriveLine.reset with
          refresh := some 0, silence := some 0, ampStatus := some 0x80#8
          autoSlot := if r.gainEnable = 1#8 then some r.lowWord else none
          band := if r.gainEnable = 1#8 then some .low else none }
        sup := { Supervision.reset with estopTaken := some st.estopLine }
        port := { st.port with
          reportInterval := some r.reportInterval.toNat, reportTimer := some 0, reportPending := false, reportTaken := false }
        events := { latched := latched, mask := mask, attention := attentionOf latched mask } } := by
  have gain : gainEnabled r = decide (r.gainEnable = 1#8) := beq_eq_decide _ _
  unfold configureNow estopRises takeTrip
  cases line : st.estopLine <;>
    simp [enterMode_eq, Mode.isPermit, Mode.isMoving, configuredRegs, configuredDrive, nominal, offset, gain, ReplayEngine.reset,
      Controller.reset, Supervision.reset, EventSet.raise, EventSet.withLatched, Station.raise, notReadyAlone]

/-- Settles O8: the checks in index order, and the accepted record taken whole. -/
theorem configureDecides : Obligations.ConfigureDecides := by
  unfold Obligations.ConfigureDecides
  refine ⟨fun s r serves => ?_, fun r index => mem_recordChecks_iff⟩
  have taken : exec (.configure r) s = .next (s.withStation (s.station.takeConfigure 0x02#8 r)) :=
    exec_commandOf_serves serves (.configure r)
  refine ⟨fun mode => ?_, fun mode index fails lowest => ?_, fun mode passes => ?_⟩ <;> rw [taken, Station.takeConfigure]
  · rw [if_pos mode]
  · rw [if_neg (not_not.mpr mode), firstBadField_eq_some fails lowest]
    rfl
  · rw [if_neg (not_not.mpr mode), firstBadField_eq_none passes]
    simp only [Station.configureNow_eq]

end Sys2Proof.Machine
end
section
/-! THE SEGMENT REQUESTS AND THE PLAYLIST IN IDLE (R1, R4, R6 to R13, R22, R24). -/

namespace Sys2Proof.Machine

/-! ### The searches of the Segment Table -/

section
variable {st : Station} {f count : Nat}

/-- First fit finds the lowest page that begins a free run (R4). -/
theorem Station.firstFit_eq_some (long : 1 ≤ count) (free : st.runFree f count = true)
    (lowest : ∀ g, g < f → st.runFree g count = false) : st.firstFit count = some f := by
  have inStore : f < pageTotal := by
    have := (runFree_iff.mp free).1
    omega
  refine List.find?_range_eq_some.mpr ⟨free, List.mem_range.mpr inStore, fun g hg => ?_⟩
  simp [lowest g hg]

theorem Station.firstFit_eq_none (full : ∀ g, st.runFree g count = false) : st.firstFit count = none :=
  List.find?_eq_none.mpr fun g _ => by simp [full g]

theorem Station.loadingId_eq_none (idle : ∀ k, (st.segment k).isLoading = false) : st.loadingId = none :=
  List.find?_eq_none.mpr fun k _ => by simp [idle k]

/-- A segment is loading under some id, and the search finds one such id (R6). -/
theorem Station.loadingId_eq_some {k : Nat} (low : 1 ≤ k) (high : k ≤ 64) (loading : (st.segment k).isLoading = true) :
    ∃ id, 1 ≤ id ∧ id ≤ 64 ∧ (st.segment id).isLoading = true ∧ st.loadingId = some id := by
  have mem : k ∈ (List.range 64).map (· + 1) := List.mem_map.mpr ⟨k - 1, List.mem_range.mpr (by omega), by omega⟩
  have some : st.loadingId.isSome = true := List.find?_isSome.mpr ⟨k, mem, loading⟩
  obtain ⟨id, found⟩ := Option.isSome_iff_exists.mp some
  obtain ⟨i, hi, rfl⟩ := List.mem_map.mp (List.mem_of_find?_eq_some found)
  have := List.mem_range.mp hi
  exact ⟨i + 1, by omega, by omega, by simpa using List.find?_some found, found⟩

end

theorem Segment.isEmpty_iff (r : Segment) : r.isEmpty = true ↔ r = .empty := by
  cases r <;> simp [Segment.isEmpty]

/-! ### SEGMENT-OPEN -/

section
variable {st : Station} {id : BitVec 8} {length : BitVec 32} {expected : BitVec 16} (kind : Byte)
variable (configured : st.ctl.mode ≠ .unconfigured)
include configured

/-- R6, check 2. -/
theorem Station.takeSegmentOpen_noSegment (notId : ¬ (1 ≤ id.toNat ∧ id.toNat ≤ 64)) :
    st.takeSegmentOpen kind id length expected = st.answer kind .noSegment [] := by
  rw [← isSegmentId_eq_true_iff, Bool.not_eq_true] at notId
  simp [takeSegmentOpen, configured, notId]

variable (isId : 1 ≤ id.toNat ∧ id.toNat ≤ 64)
include isId

/-- R6, check 3. -/
theorem Station.takeSegmentOpen_notEmpty (record : st.segment id.toNat ≠ .empty) :
    st.takeSegmentOpen kind id length expected = st.answer kind .badState [] := by
  rw [← isSegmentId_eq_true_iff] at isId
  rw [ne_eq, ← Segment.isEmpty_iff, Bool.not_eq_true] at record
  simp [takeSegmentOpen, configured, isId, record]

variable (empty : st.segment id.toNat = .empty)
include empty

/-- R6, check 4. -/
theorem Station.takeSegmentOpen_busy {k : Nat} (loading : st.loadingId = some k) :
    st.takeSegmentOpen kind id length expected = st.answer kind .busy [BitVec.ofNat 8 k] := by
  rw [← isSegmentId_eq_true_iff] at isId
  simp [takeSegmentOpen, configured, isId, empty, Segment.isEmpty, loading, codeByte]

variable (idle : st.loadingId = none)
include idle

/-- R6, check 5. -/
theorem Station.takeSegmentOpen_badLength (range : ¬ (16 ≤ length.toNat ∧ length.toNat ≤ 4194304)) :
    st.takeSegmentOpen kind id length expected = st.answer kind .badArg [] := by
  rw [← isSegmentId_eq_true_iff] at isId
  have outside : length.toNat < 16 ∨ storeSize < length.toNat := by
    unfold storeSize
    omega
  simp [takeSegmentOpen, configured, isId, empty, Segment.isEmpty, idle, outside]

variable (range : 16 ≤ length.toNat ∧ length.toNat ≤ 4194304)
include range

/-- R6, every check but the last passed: first fit decides. -/
theorem Station.takeSegmentOpen_fit : st.takeSegmentOpen kind id length expected =
    match st.firstFit ((length.toNat + 8191) / 8192) with
    | none => st.answer kind .noSpace []
    | some f => (st.setSegment id.toNat (.loading
        { firstPage := f, pageCount := (length.toNat + 8191) / 8192, length := length.toNat, expected := expected,
          computed := 0xFFFF#16 } 0 0)).answer kind .ok (leBytes 2 f ++ leBytes 2 ((length.toNat + 8191) / 8192)) := by
  rw [← isSegmentId_eq_true_iff] at isId
  have inside : ¬ (length.toNat < 16 ∨ storeSize < length.toNat) := by
    unfold storeSize
    omega
  have pages : ceilDiv length.toNat pageSize = (length.toNat + 8191) / 8192 := by
    simp only [ceilDiv, pageSize]
    omega
  cases fit : st.firstFit ((length.toNat + 8191) / 8192) <;>
    simp only [takeSegmentOpen, if_neg configured, isId, empty, Segment.isEmpty, idle, if_neg inside, Bool.true_eq_false,
      if_false, pages, fit, crcInitHost]

end

/-- Settles O9: the checks of R6 pass, and first fit finds the run. -/
theorem segmentOpenTaken : Obligations.SegmentOpenTaken := by
  unfold Obligations.SegmentOpenTaken
  intro s id length expected f serves _ _ configured low high empty idle short long free lowest
  have taken := exec_commandOf_serves serves (.segmentOpen id length expected)
  refine taken.trans ?_
  rw [Station.takeRequest, Station.takeSegmentOpen_fit _ configured ⟨low, high⟩ empty (Station.loadingId_eq_none idle)
    ⟨short, long⟩, Station.firstFit_eq_some (by omega) free lowest]
  rfl

/-- Settles O10: one clause for each check of R6. -/
theorem segmentOpenRefused : Obligations.SegmentOpenRefused := by
  unfold Obligations.SegmentOpenRefused
  intro s id length expected serves
  have taken : exec (.segmentOpen id length expected) s =
      .next (s.withStation (s.station.takeSegmentOpen 0x03#8 id length expected)) :=
    exec_commandOf_serves serves (.segmentOpen id length expected)
  simp only [taken]
  refine ⟨fun mode => ?_, fun mode notId => ?_, fun mode isId record => ?_, fun mode isId empty ⟨k, low, high, loading⟩ => ?_,
    fun mode isId empty idle range => ?_, fun mode isId empty idle range full => ?_⟩
  · rw [Station.takeSegmentOpen, if_pos mode]
  · rw [Station.takeSegmentOpen_noSegment _ mode notId]
  · rw [Station.takeSegmentOpen_notEmpty _ mode isId record]
  · obtain ⟨other, low, high, loading, found⟩ := Station.loadingId_eq_some low high loading
    exact ⟨other, low, high, loading, by rw [Station.takeSegmentOpen_busy _ mode isId empty found]⟩
  · rw [Station.takeSegmentOpen_badLength _ mode isId empty (Station.loadingId_eq_none idle) range]
  · rw [Station.takeSegmentOpen_fit _ mode isId empty (Station.loadingId_eq_none idle) range, Station.firstFit_eq_none full]

/-! ### SEGMENT-DATA -/

section
variable {st : Station} {id : BitVec 8} {part : BitVec 32} {samples : List Sample} {b : SegmentBody} {m next : Nat}
variable (kind : Byte) (configured : st.ctl.mode ≠ .unconfigured)
include configured

/-- R8, check 2. -/
theorem Station.takeSegmentData_noSegment (notId : ¬ (1 ≤ id.toNat ∧ id.toNat ≤ 64)) :
    st.takeSegmentData kind id part samples = st.answer kind .noSegment [] := by
  rw [← isSegmentId_eq_true_iff, Bool.not_eq_true] at notId
  simp [takeSegmentData, configured, notId]

variable (isId : 1 ≤ id.toNat ∧ id.toNat ≤ 64)
include isId

/-- R8, check 3. -/
theorem Station.takeSegmentData_notLoading (record : (st.segment id.toNat).isLoading = false) :
    st.takeSegmentData kind id part samples = st.answer kind .badState [] := by
  rw [← isSegmentId_eq_true_iff] at isId
  cases hr : st.segment id.toNat with
  | loading => simp [hr, Segment.isLoading] at record
  | empty | ready | bad => simp [takeSegmentData, configured, isId, hr]

variable (loading : st.segment id.toNat = .loading b m next)
include loading

/-- R8, from check 4 on. -/
theorem Station.takeSegmentData_loading : st.takeSegmentData kind id part samples =
    if part.toNat ≠ next then st.refusePart kind id.toNat part.toNat next
    else if ¬ (1 ≤ samples.length ∧ samples.length ≤ 48) ∨ b.length < m + samples.length ∨
      (m + samples.length ≠ b.length ∧ samples.length ≠ 48) then st.answer kind .badArg []
    else
      let b' := { b with computed := crc16 b.computed (samples.flatMap sampleBytes) }
      let written : Station := { st with store := writeSamples st.store (b.firstPage * 8192 + m) samples }
      if m + samples.length < b.length then
        (written.setSegment id.toNat (.loading b' (m + samples.length) (next + 1))).answer kind .ok [1#8]
      else if b'.computed = b'.expected then
        ((written.setSegment id.toNat (.ready b')).raise .segmentReady).answer kind .ok [2#8]
      else ((written.setSegment id.toNat (.bad b')).raise .segmentBad).answer kind .ok [3#8] := by
  rw [← isSegmentId_eq_true_iff] at isId
  have counted : ¬ (1 ≤ samples.length ∧ samples.length ≤ 48) ↔ samples.length < 1 ∨ 48 < samples.length := by omega
  simp only [takeSegmentData, if_neg configured, isId, loading, counted, Bool.true_eq_false, if_false]
  split_ifs <;> first | rfl | tauto

end

/-- Settles O11: every check of R8 passes, and R10 decides by what is left to receive. -/
theorem segmentDataTaken : Obligations.SegmentDataTaken := by
  unfold Obligations.SegmentDataTaken
  intro s id part samples b m serves _ _ configured low high loading some few within whole _ _ _
  have taken := exec_commandOf_serves serves (.segmentData id part samples)
  have passes : ¬ (¬ (1 ≤ samples.length ∧ samples.length ≤ 48) ∨ b.length < m + samples.length ∨
      (m + samples.length ≠ b.length ∧ samples.length ≠ 48)) := by omega
  have data := Station.takeSegmentData_loading (samples := samples) (part := part) 0x04#8 configured ⟨low, high⟩ loading
  rw [if_neg (not_not.mpr rfl), if_neg passes] at data
  refine ⟨fun more => taken.trans ?_, fun last equal => taken.trans ?_, fun last differ => taken.trans ?_⟩ <;>
    refine congrArg _ (congrArg _ (data.trans ?_))
  · exact if_pos more
  · exact (if_neg (by omega)).trans (if_pos equal)
  · exact (if_neg (by omega)).trans (if_neg differ)

/-- Settles O12: one clause for each check of R8, and R13's beside check 4. -/
theorem segmentDataRefused : Obligations.SegmentDataRefused := by
  unfold Obligations.SegmentDataRefused
  intro s id part samples serves
  have taken : exec (.segmentData id part samples) s = .next (s.withStation (s.station.takeSegmentData 0x04#8 id part samples)) :=
    exec_commandOf_serves serves (.segmentData id part samples)
  simp only [taken]
  refine ⟨fun mode => ?_, fun mode notId => ?_, fun mode isId record => ?_, fun b m next mode isId loading => ?_⟩
  · rw [Station.takeSegmentData, if_pos mode]
  · rw [Station.takeSegmentData_noSegment _ mode notId]
  · rw [Station.takeSegmentData_notLoading _ mode isId record]
  · rw [Station.takeSegmentData_loading _ mode isId loading]
    refine ⟨fun other kept => ?_, fun other cut first => ?_, fun awaited count => ?_, fun awaited count beyond => ?_,
      fun awaited count short part => ?_⟩
    · rw [if_pos other, Station.refusePart, if_neg (by rintro ⟨cut, first, -⟩; simp [cut, first] at kept)]
    · have differs : part.toNat ≠ next := by bv_omega
      have nonzero : part.toNat ≠ 0 := by bv_omega
      rw [if_pos differs, Station.refusePart, if_pos ⟨cut, first, nonzero⟩]
    · rw [if_neg (not_not.mpr awaited), if_pos (.inl count)]
    · rw [if_neg (not_not.mpr awaited), if_pos (.inr (.inl beyond))]
    · rw [if_neg (not_not.mpr awaited), if_pos (.inr (.inr ⟨by omega, part⟩))]

/-! ### The Sample Store -/

/-- Samples written one after the other leave every other index (R1). -/
theorem Store.read_writeSamples_other {k : Nat} : ∀ {samples : List Sample} {store : Store} {i : Nat}, Store.wf store = true →
    k < i ∨ i + samples.length ≤ k → Store.read (writeSamples store i samples) k = Store.read store k
  | [], _, _, _, _ => rfl
  | x :: rest, store, i, h, outside => by
    rw [List.length_cons] at outside
    rw [writeSamples, read_writeSamples_other (Store.wf_write h i _) (by omega), Store.read_write_other h (by omega)]

/-- Samples written are read back as they are stored (R9). -/
theorem Store.read_writeSamples_self : ∀ {samples : List Sample} {store : Store} {i j : Nat} {x : Sample},
    Store.wf store = true → i + samples.length ≤ storeSize → samples[j]? = some x →
    Store.read (writeSamples store i samples) (i + j) = storedSample x
  | [], _, _, _, _, _, _, found => by simp at found
  | y :: rest, store, i, j, x, h, room, found => by
    rw [List.length_cons] at room
    rw [writeSamples]
    cases j with
    | zero =>
      obtain rfl : y = x := by simpa using found
      exact (read_writeSamples_other (Store.wf_write h i _) (.inl (Nat.lt_succ_self i))).trans
        (Store.read_write_self h (by omega) _)
    | succ j =>
      rw [show i + (j + 1) = i + 1 + j by omega]
      exact read_writeSamples_self (Store.wf_write h i _) (by omega) (by simpa using found)

/-- Settles O13: the laws of the store, sample by sample. -/
theorem writtenSamplesReadBack : Obligations.WrittenSamplesReadBack := by
  unfold Obligations.WrittenSamplesReadBack
  exact fun store i samples h room => ⟨Store.wf_writeSamples h, fun j x found => Store.read_writeSamples_self h room found,
    fun k outside => Store.read_writeSamples_other h outside⟩

/-! ### SEGMENT-DISCARD and the playlist in IDLE -/

/-- Settles O14: one clause for each row of R12. -/
theorem segmentDiscardDecides : Obligations.SegmentDiscardDecides := by
  unfold Obligations.SegmentDiscardDecides
  intro s id serves
  have taken : exec (.segmentDiscard id) s = .next (s.withStation (s.station.takeSegmentDiscard 0x05#8 id)) :=
    exec_commandOf_serves serves (.segmentDiscard id)
  have pinned : s.station.pinned id.toNat = true ↔ (∃ e ∈ s.station.schedule.playlist, e.segment = id.toNat) ∧
      s.station.ctl.mode ≠ .unconfigured ∧ s.station.ctl.mode ≠ .idle := by simp [Station.pinned, and_assoc]
  simp only [taken, Station.takeSegmentDiscard, ← pinned, ← isSegmentId_eq_true_iff, ← Segment.isEmpty_iff, ne_eq]
  refine ⟨fun mode => ?_, fun mode notId => ?_, fun mode isId empty => ?_, fun mode isId record pin => ?_,
    fun mode isId record pin => ?_⟩
  · rw [if_pos mode]
  · rw [if_neg mode, if_pos (by simpa using notId)]
  · rw [if_neg mode, if_neg (by simp [isId]), if_pos empty]
  · rw [if_neg mode, if_neg (by simp [isId]), if_neg record, if_pos pin]
  · have nonzero : id.toNat ≠ 0 := by
      have := (isSegmentId_eq_true_iff _).mp isId
      omega
    rw [if_neg mode, if_neg (by simp [isId]), if_neg record, if_neg pin, Station.setCut, if_neg nonzero]

/-- Settles O16: in IDLE the Schedule alone changes. -/
theorem playlistClearAndPassesInIdle : Obligations.PlaylistClearAndPassesInIdle := by
  unfold Obligations.PlaylistClearAndPassesInIdle
  intro s serves
  have taken := exec_commandOf_serves serves
  refine ⟨fun mode => (taken .playlistClear).trans ?_, fun mode => (taken .playlistClear).trans ?_,
    fun passes => ⟨fun mode => (taken (.schedulePasses passes)).trans ?_, fun mode => (taken (.schedulePasses passes)).trans ?_⟩⟩
  · rw [Station.takeRequest, Station.takePlaylistClear, if_neg (not_not.mpr mode)]
    rfl
  · rw [Station.takeRequest, Station.takePlaylistClear, if_pos mode]
    rfl
  · rw [Station.takeRequest, Station.takeSchedulePasses, if_neg (not_not.mpr mode)]
    rfl
  · rw [Station.takeRequest, Station.takeSchedulePasses, if_pos mode]
    rfl

end Sys2Proof.Machine
end
section
/-! POSITIONS AND STEPS (R25, R28 to R34, R40, R43, R44). -/

namespace Sys2Proof.Machine

/-! ### The start table and the mapping -/

/-- The starts of a table do not lie before the first. -/
theorem le_of_mem_startsFrom : ∀ {spans : List Nat} {base x : Nat}, x ∈ startsFrom base spans → base ≤ x
  | [], _, _, h => by simp [startsFrom] at h
  | span :: rest, base, x, h => by
    rcases List.mem_cons.mp h with rfl | later
    · exact Nat.le_refl _
    · have := le_of_mem_startsFrom later
      omega

/-- Below the end of a table of entries that play samples, a whole position lies in exactly one of them, and the starts not
above it are those up to that entry's (R25, R28). -/
theorem startsFrom_find : ∀ {spans : List Nat} {base whole : Nat}, (∀ span ∈ spans, 0 < span) → base ≤ whole →
    whole < base + spans.sum → ∃ i span, spans[i]? = some span ∧
      (startsFrom base spans)[i]? = some (base + (spans.take i).sum) ∧ base + (spans.take i).sum ≤ whole ∧
      whole < base + (spans.take i).sum + span ∧ entryIndex (startsFrom base spans) whole = i
  | [], _, _, _, low, high => by simp at high; omega
  | span :: rest, base, whole, positive, low, high => by
    have here := positive span (by simp)
    rw [List.sum_cons] at high
    by_cases inside : whole < base + span
    · have none : (startsFrom (base + span) rest).filter (· ≤ whole) = [] :=
        List.filter_eq_nil_iff.mpr fun x hx => by
          have := le_of_mem_startsFrom hx
          simp only [decide_eq_true_eq]
          omega
      exact ⟨0, span, rfl, rfl, low, inside, by simp [entryIndex, startsFrom, low, none]⟩
    · obtain ⟨i, span', found, start, reached, within, index⟩ := startsFrom_find (base := base + span) (whole := whole)
        (fun x hx => positive x (List.mem_cons_of_mem _ hx)) (by omega) (by omega)
      refine ⟨i + 1, span', found, ?_, ?_, ?_, ?_⟩
      · rw [startsFrom, List.getElem?_cons_succ, start, List.take_succ_cons, List.sum_cons, Nat.add_assoc]
      · rw [List.take_succ_cons, List.sum_cons]
        omega
      · rw [List.take_succ_cons, List.sum_cons]
        omega
      · have some : 0 < ((startsFrom (base + span) rest).filter (· ≤ whole)).length := by
          refine List.length_pos_of_mem (a := base + span + (rest.take i).sum) (List.mem_filter.mpr ⟨?_, ?_⟩)
          · exact List.mem_of_getElem? start
          · simpa using reached
        simp only [entryIndex, startsFrom, List.filter_cons, low, decide_true, if_true, List.length_cons] at index ⊢
        omega

/-- R28: the mapping names the entry in which a whole position lies. -/
theorem Station.mapWhole_inside {st : Station} {whole : Nat} (tables : st.schedule.tables = some st.computeTables)
    (spans : ∀ e ∈ st.schedule.playlist, 0 < st.span e) (below : whole < st.passLength) :
    ∃ i e start, st.schedule.playlist[i]? = some e ∧ start = ((st.schedule.playlist.take i).map st.span).sum ∧
      start ≤ whole ∧ whole < start + st.span e ∧
      st.mapWhole whole = some (Mapped.mk i e start ((whole - start) / st.segmentLength e.segment)
        ((whole - start) % st.segmentLength e.segment)) := by
  have positive : ∀ span ∈ st.schedule.playlist.map st.span, 0 < span := by simpa using spans
  obtain ⟨i, span, found, start, reached, within, index⟩ := startsFrom_find positive (Nat.zero_le whole)
    (by rw [Nat.zero_add]; exact below)
  rw [Nat.zero_add, ← List.map_take] at start reached within
  obtain ⟨e, entry, rfl⟩ : ∃ e, st.schedule.playlist[i]? = some e ∧ st.span e = span := by simpa using found
  refine ⟨i, e, _, entry, rfl, reached, within, ?_⟩
  unfold mapWhole
  simp only [tables, computeTables, entryStarts, index, entry, start]

/-! ### Interpolation -/

/-- R43, R44: the interpolated value lies between the two samples. -/
theorem interpolate_between (s0 s1 : Int) {fraction : Nat} (range : fraction < 65536) :
    min s0 s1 ≤ interpolate s0 s1 fraction ∧ interpolate s0 s1 fraction ≤ max s0 s1 := by
  have low : (0 : Int) ≤ fraction := Int.natCast_nonneg _
  have high : (fraction : Int) ≤ 65536 := by omega
  unfold interpolate
  rcases le_total s0 s1 with up | down
  · have : 0 ≤ (s1 - s0) * fraction := by nlinarith
    have : (s1 - s0) * fraction ≤ (s1 - s0) * 65536 := by nlinarith
    omega
  · have : (s1 - s0) * fraction ≤ 0 := by nlinarith
    have : (s1 - s0) * 65536 ≤ (s1 - s0) * fraction := by nlinarith
    omega

/-- Settles O17: the mapping by the start table, and the bounds of the interpolation. -/
theorem positionsMapAndInterpolate : Obligations.PositionsMapAndInterpolate := by
  unfold Obligations.PositionsMapAndInterpolate
  refine ⟨fun st whole tables spans below => ?_, fun s0 s1 fraction range => ?_⟩
  · obtain ⟨i, e, start, entry, sum, reached, within, mapped⟩ := Station.mapWhole_inside tables spans below
    have long : 0 < st.segmentLength e.segment :=
      Nat.pos_of_mul_pos_right (spans e (List.mem_of_getElem? entry))
    refine ⟨i, e, start, entry, sum, reached, within, mapped, ?_, Nat.mod_lt _ long⟩
    refine Nat.div_lt_of_lt_mul ?_
    unfold Station.span at within
    omega
  · obtain ⟨low, high⟩ := interpolate_between s0 s1 range
    refine ⟨low, high, ?_⟩
    rw [interpolate, Nat.cast_zero, mul_zero, Int.zero_ediv, add_zero]

/-! ### The single step -/

section
variable {st : Station} {p : Position} {t : Tables}

theorem Station.lastWhole_iff (tables : st.schedule.tables = some t) : st.lastWhole p.whole = true ↔ p.whole + 1 = t.passLength := by
  simp [lastWhole, tables]

theorem Station.finalPass_iff : st.finalPass p.pass = true ↔ st.schedule.passes ≠ 0 ∧ p.pass = st.schedule.passes := by
  simp only [finalPass, Bool.and_eq_true, bne_iff_ne, beq_iff_eq, eq_comm (a := p.pass)]

theorem Station.waitEnd_iff : st.waitEnd p.whole = true ↔ ∃ m, st.mapWhole p.whole = some m ∧ m.entry.wait = true ∧
    p.whole + 1 = m.start + st.segmentLength m.entry.segment * m.entry.repeats := by
  unfold waitEnd span
  cases st.mapWhole p.whole <;> simp

end

/-- A park inside an update: WAIT as a reason or in a moving RAMP-OUT, the end in every moving state (R31, R32). -/
theorem Station.takeStepReport_eq (st : Station) (cfg : ConfigRecord) :
    let stood := st.engine.regs.map fun x => { x with increment := nominal cfg }
    let entered (m : Mode) (set : ReasonSet) : Station := { st with
      ctl := { st.ctl with mode := m, permit := true, countdown := none, reasons := set }
      engine := { st.engine with fadeEnd := none, regs := stood }
      events := st.events.raise .state }
    st.takeStepReport cfg .nothing = st ∧ st.takeStepReport cfg .passEnd = { st with events := st.events.raise .pass } ∧
    (st.ctl.mode = .rampIn ∨ st.ctl.mode = .playing →
      st.takeStepReport cfg .waitPark = st.takeReason cfg .wait (own cfg)) ∧
    (st.ctl.mode = .rampOutMoving →
      st.takeStepReport cfg .waitPark = entered .rampOutParked (st.ctl.reasons ||| HoldReason.wait.bit)) ∧
    (st.ctl.mode = .rampIn ∨ st.ctl.mode = .playing ∨ st.ctl.mode = .rampOutMoving →
      st.takeStepReport cfg .endPark = entered .ending st.ctl.reasons) := by
  refine ⟨rfl, rfl, fun running => ?_, fun mode => ?_, fun moving => ?_⟩
  · rcases running with mode | mode <;> simp only [takeStepReport, takeWaitPark, mode, reportReason]
  · simp only [takeStepReport, takeWaitPark, mode, enterMode_eq, insertReason]
    rfl
  · have moves : st.ctl.mode.isMoving = true := by rcases moving with mode | mode | mode <;> rw [mode] <;> rfl
    simp only [takeStepReport, takeEndPark, moves, if_true, enterMode_eq]
    rfl

/-- R40: the fraction takes the sum of itself and the increment, and its carry is so many single steps. -/
theorem Station.advance_eq {st : Station} {cfg : ConfigRecord} {p : Position} {r : EngineRegs}
    (position : st.engine.position = some p) (regs : st.engine.regs = some r) : st.advance cfg =
    if p.park = .none then
      st.advanceBy cfg { p with fraction := (p.fraction + r.increment) % 65536 } ((p.fraction + r.increment) / 65536)
    else st := by
  simp only [advance, position, regs]

/-- A carry of 1 is one single step (R40). -/
theorem Station.advanceBy_one (st : Station) (cfg : ConfigRecord) (p : Position) :
    st.advanceBy cfg p 1 = (st.setPosition (st.singleStep p).1).takeStepReport cfg (st.singleStep p).2 ∧
    (st.advanceBy cfg p 1).engine.position = some (st.singleStep p).1 := by
  have kept := (takeStepReport_kept (st.setPosition (st.singleStep p).1) cfg (st.singleStep p).2).2
  have stepped : st.advanceBy cfg p 1 = (st.setPosition (st.singleStep p).1).takeStepReport cfg (st.singleStep p).2 := by
    show ((st.setPosition (st.singleStep p).1).takeStepReport cfg (st.singleStep p).2).setPosition (st.singleStep p).1 = _
    generalize (st.setPosition (st.singleStep p).1).takeStepReport cfg (st.singleStep p).2 = y at kept ⊢
    rw [setPosition, ← show y.engine.position = some (st.singleStep p).1 from kept]
  exact ⟨stepped, stepped ▸ kept⟩

/-- Settles O18: the single step case by case, and one update of the position. -/
theorem scheduleSteps : Obligations.ScheduleSteps := by
  unfold Obligations.ScheduleSteps
  refine ⟨fun st p t tables => ?_, fun st p position => ?_, fun st whole m b mapped ready => ?_,
    Station.takeStepReport_eq, fun st cfg p r position regs => ?_⟩
  · simp only [← Station.lastWhole_iff tables, ← Station.finalPass_iff, ← Station.waitEnd_iff, Station.singleStep, Station.nextWhole]
    refine ⟨fun parked => ?_, fun unparked last final => ?_, fun unparked goesOn waits => ?_,
      fun unparked last notFinal notWait => ?_, fun unparked notLast notWait => ?_⟩
    · simp only [if_pos parked, and_self]
    · simp [unparked, last, final]
    · have here : ¬ ((st.lastWhole p.whole && st.finalPass p.pass) = true) := by simpa using goesOn
      simp [unparked, here, waits]
    · simp [unparked, last, notFinal, notWait, nextPass]
    · simp [unparked, notLast, notWait]
  · simp only [Station.interpolated, position]
  · simp only [Station.sampleAt, mapped, Station.sampleOf, ready, Segment.body?, pageSize]
  · have advanced := Station.advance_eq (cfg := cfg) position regs
    refine ⟨fun parked => ?_, fun unparked below => ?_, fun unparked reached below => ?_⟩
    · rw [advanced, if_neg parked]
    · rw [advanced, if_pos unparked, Nat.mod_eq_of_lt below, Nat.div_eq_of_lt below]
      rfl
    · have fraction : (p.fraction + r.increment) % 65536 = p.fraction + r.increment - 65536 := by omega
      have carry : (p.fraction + r.increment) / 65536 = 1 := by omega
      rw [advanced, if_pos unparked, fraction, carry]
      exact Station.advanceBy_one st cfg _

end Sys2Proof.Machine
end
section
/-! THE REQUESTS OF THE BLOCKS (R35, R46, R68, R69, R72 to R75, R85, R95, R106, R145, R149, R183, R185). -/

namespace Sys2Proof.Machine

/-! ### ARM -/

section
variable {st : Station} {cfg : ConfigRecord}

/-- R72, condition 1. -/
theorem Station.armFailure_empty (empty : st.schedule.playlist = []) : st.armFailure = some [1#8] := by
  rw [armFailure, empty]
  rfl

/-- R72, condition 2. -/
theorem Station.armFailure_unready {i : Nat} {e : Entry} (entry : st.schedule.playlist[i]? = some e)
    (unready : (st.segment e.segment).isReady = false) (before : ∀ (j : Nat) (x : Entry), j < i →
      st.schedule.playlist[j]? = some x → (st.segment x.segment).isReady = true) :
    st.armFailure = some [2#8, BitVec.ofNat 8 i] := by
  obtain ⟨inside, here⟩ := List.getElem?_eq_some_iff.mp entry
  have filled : st.schedule.playlist.length ≠ 0 := by omega
  have first : (st.schedule.playlist.findIdx? fun e => !(st.segment e.segment).isReady) = some i := by
    refine List.findIdx?_eq_some_iff_getElem.mpr ⟨inside, by simp [here, unready], fun j hj => ?_⟩
    simp [before j _ hj (List.getElem?_eq_getElem (by omega))]
  rw [armFailure, if_neg filled, first]
  rfl

/-- The line is heard while silence has not reached its bound (R72, R152). -/
theorem Station.unheard_iff : ((st.drive.silence.map fun n => decide (n < silenceBound)).getD false) = false ↔
    ¬ ∃ n, st.drive.silence = some n ∧ n < 48 := by
  unfold silenceBound
  cases st.drive.silence <;> simp

theorem Station.notReady_iff : ((st.drive.ampStatus.map showsNotReady).getD true) = true ↔
    ¬ ∃ a : AmpStatus, st.drive.ampStatus = some a ∧ a.getLsbD 7 = false := by
  cases st.drive.ampStatus <;> simp [showsNotReady]

/-- R72, conditions 3 to 6. -/
theorem Station.armFailure_ready (entries : st.schedule.playlist ≠ [])
    (ready : ∀ e ∈ st.schedule.playlist, (st.segment e.segment).isReady = true) : st.armFailure =
    if ((st.drive.silence.map fun n => decide (n < silenceBound)).getD false) = false then some [3#8]
    else if ((st.drive.ampStatus.map showsNotReady).getD true) = true then some [4#8]
    else if st.sup.estopTaken = some true then some [5#8]
    else if st.ctl.clash = true then some [6#8] else none := by
  have filled : st.schedule.playlist.length ≠ 0 := by simpa using entries
  have all : (st.schedule.playlist.findIdx? fun e => !(st.segment e.segment).isReady) = none :=
    List.findIdx?_eq_none_iff.mpr fun e he => by simp [ready e he]
  rw [armFailure, if_neg filled, all]
  rfl

/-- R73 field by field: I is N in IDLE already, and entering ARMED writes N. -/
theorem Station.armNow_eq (config : st.config = some cfg) (increment : st.incrementOk = true) (idle : st.ctl.mode = .idle) :
    st.armNow cfg = { st with
      ctl := { st.ctl with mode := .armed, permit := true, countdown := none, holdRecord := none, tripRecord := none }
      schedule := { st.schedule with tables := some st.computeTables }
      engine := { st.engine with
        position := some { pass := 1, whole := 0, fraction := 0, park := .none }, clampCount := 0, rateCount := 0, fadeEnd := none }
      sup := { st.sup with trackCount := 0, trippingStatus := none }
      events := st.events.raise .state } := by
  have nominal : (st.engine.regs.map fun r => { r with increment := nominal cfg }) = st.engine.regs := by
    cases regs : st.engine.regs with
    | none => rfl
    | some r =>
      have stands := ((incrementOk_iff config).mp increment r regs).2 (by rw [idle]; rfl)
      simp [← stands]
  unfold armNow
  rw [enterMode_eq]
  simp only [Mode.isMoving, Bool.false_eq_true, if_false, nominal]
  rfl

end

/-- Settles O19: the conditions of R72 hold, and R73 freezes the tables. -/
theorem armTaken : Obligations.ArmTaken := by
  unfold Obligations.ArmTaken
  intro s cfg n a serves _ config increment idle entries ready silence heard status amp estop clash _ _
  have passes : s.station.armFailure = none := by
    have lineHeard := Station.unheard_iff.not.mpr (not_not.mpr ⟨n, silence, heard⟩)
    have ampReady := Station.notReady_iff.not.mpr (not_not.mpr ⟨a, status, amp⟩)
    rw [Station.armFailure_ready entries ready, if_neg lineHeard, if_neg ampReady, if_neg estop, clash]
    rfl
  refine (exec_commandOf_serves serves .arm).trans ?_
  rw [Station.takeRequest, Station.runRequest_configured config, Station.takeArm, if_neg (not_not.mpr idle), passes,
    Station.armNow_eq config increment idle]
  rfl

/-- Settles O20: one clause for each condition of R72. -/
theorem armRefused : Obligations.ArmRefused := by
  unfold Obligations.ArmRefused
  intro s cfg serves
  have taken : exec .arm s = .next (s.withStation (s.station.runRequest 0x0B#8 fun cfg => s.station.takeArm cfg 0x0B#8)) :=
    exec_commandOf_serves serves .arm
  refine ⟨fun notIdle => ?_, fun config idle => ?_⟩
  · have refused (cfg : ConfigRecord) : s.station.takeArm cfg 0x0B#8 = s.station.answer 0x0B#8 .badState [] := if_pos notIdle
    exact taken.trans (by rw [Station.runRequest_refused refused])
  · have refuses {condition : List Byte} (fails : s.station.armFailure = some condition) :
        exec .arm s = .next (s.withStation (s.station.answer 0x0B#8 .notReady condition)) := by
      rw [taken, Station.runRequest_configured config, Station.takeArm, if_neg (not_not.mpr idle), fails]
    refine ⟨fun empty => refuses (Station.armFailure_empty empty),
      fun i e entry unready before => refuses (Station.armFailure_unready entry unready before),
      fun ready silent => refuses ?_, fun ready heard amp => refuses ?_, fun ready heard amp estop => refuses ?_,
      fun ready heard amp estop clash => refuses ?_⟩ <;> rw [Station.armFailure_ready ready.1 ready.2]
    · rw [if_pos (Station.unheard_iff.mpr silent)]
    · rw [if_neg (Station.unheard_iff.not.mpr (not_not.mpr heard)), if_pos (Station.notReady_iff.mpr amp)]
    · rw [if_neg (Station.unheard_iff.not.mpr (not_not.mpr heard)), if_neg (Station.notReady_iff.not.mpr (not_not.mpr amp)),
        if_pos estop]
    · rw [if_neg (Station.unheard_iff.not.mpr (not_not.mpr heard)), if_neg (Station.notReady_iff.not.mpr (not_not.mpr amp)),
        if_neg estop, if_pos clash]

/-! ### DISARM and CLEAR-TRIP -/

/-- R74 field by field. -/
theorem Station.enterIdle_eq (st : Station) (cfg : ConfigRecord) : st.enterIdle cfg = { st with
    ctl := { st.ctl with mode := .idle, permit := false, countdown := none, reasons := 0 }
    schedule := { st.schedule with tables := none }
    engine := { st.engine with
      position := none, fadeEnd := none, regs := st.engine.regs.map fun x => { x with increment := nominal cfg } }
    link := { st.link with
      controlSlot := if isGo st.link.controlSlot ∨ isResume st.link.controlSlot then none else st.link.controlSlot }
    events := st.events.raise .state } := by
  unfold enterIdle dropGoAndResume
  rw [enterMode_eq]
  simp only [Bool.or_eq_true]
  split <;> rfl

/-- Settles O21: the entry into IDLE, and the refusals of R74 and R95. -/
theorem disarmAndClearTripEnterIdle : Obligations.DisarmAndClearTripEnterIdle := by
  unfold Obligations.DisarmAndClearTripEnterIdle
  intro s cfg serves
  have disarm : exec .disarm s = .next (s.withStation (s.station.runRequest 0x0C#8 fun cfg => s.station.takeDisarm cfg 0x0C#8)) :=
    exec_commandOf_serves serves .disarm
  have clear : exec .clearTrip s =
      .next (s.withStation (s.station.runRequest 0x12#8 fun cfg => s.station.takeClearTrip cfg 0x12#8)) :=
    exec_commandOf_serves serves .clearTrip
  simp only [← Station.enterIdle_eq, disarm, clear]
  refine ⟨fun config may => ?_, fun mayNot => ?_, fun config tripped estop => ?_, fun config tripped estop => ?_,
    fun notTripped => ?_⟩
  · rw [Station.runRequest_configured config]
    rcases may with mode | mode | mode <;> simp only [Station.takeDisarm, mode]
  · rw [Station.runRequest_refused fun cfg => ?_]
    cases mode : s.station.ctl.mode <;> simp only [Station.takeDisarm, mode] <;> simp [mode] at mayNot
  · rw [Station.runRequest_configured config, Station.takeClearTrip, if_neg (not_not.mpr tripped), if_neg estop]
  · rw [Station.runRequest_configured config, Station.takeClearTrip, if_neg (not_not.mpr tripped), if_pos estop]
  · have refused (cfg : ConfigRecord) : s.station.takeClearTrip cfg 0x12#8 = s.station.answer 0x12#8 .badState [] :=
      if_pos notTripped
    rw [Station.runRequest_refused refused]

/-! ### START and RESUME -/

section
variable {st : Station} {cfg : ConfigRecord} {t : Tables} {state : Mode} {k : StationNo}

/-- What a ready peer is (R106): FRESH, in the state the request calls for, with the own fingerprint. -/
def Station.Ready (st : Station) (t : Tables) (state : Mode) (k : StationNo) : Prop :=
  ∃ e x, st.peer k = some e ∧ e.fresh = true ∧ e.state = state ∧ e.schedule = some x ∧ x.fingerprint = t.fingerprint

theorem Station.peerReady_iff (tables : st.schedule.tables = some t) : st.peerReady state k = true ↔ st.Ready t state k := by
  have agrees (e : PeerEntry) : st.agrees e = true ↔ ∃ x, e.schedule = some x ∧ x.fingerprint = t.fingerprint := by
    cases hs : e.schedule <;> simp [agrees, fingerprint?, tables, hs]
  unfold peerReady Ready
  cases entry : st.peer k with
  | none => simp
  | some e => simp [agrees, and_assoc]

theorem mem_expectedPeers : k ∈ expectedPeers cfg ↔ expects cfg k = true := by
  simp [expectedPeers]

theorem expectedPeers_rising (cfg : ConfigRecord) : (expectedPeers cfg).Pairwise (· < ·) :=
  (List.pairwise_lt_finRange 24).filter _

/-- The lowest expected number that is not ready (R106). -/
theorem Station.firstUnready_eq_some (tables : st.schedule.tables = some t) (expected : expects cfg k = true)
    (unready : ¬ st.Ready t state k) (before : ∀ j : StationNo, j < k → expects cfg j = true → st.Ready t state j) :
    st.firstUnready cfg state = some k := by
  refine find_least (expectedPeers_rising cfg) (mem_expectedPeers.mpr expected) ?_ fun j mem fails below => ?_
  · rw [← peerReady_iff tables] at unready
    simpa using unready
  · have ready := before j below (mem_expectedPeers.mp mem)
    simp [(peerReady_iff tables).mpr ready] at fails

theorem Station.firstUnready_eq_none (tables : st.schedule.tables = some t)
    (ready : ∀ k : StationNo, expects cfg k = true → st.Ready t state k) : st.firstUnready cfg state = none :=
  List.find?_eq_none.mpr fun k mem => by simp [(peerReady_iff tables).mpr (ready k (mem_expectedPeers.mp mem))]

theorem Station.legal_iff (tables : st.schedule.tables = some t) (pass whole : Nat) : st.legal pass whole = true ↔
    whole < t.passLength ∧ (st.schedule.passes = 0 ∨ 1 ≤ pass ∧ pass ≤ st.schedule.passes) := by
  simp [legal, tables]

end

/-- Settles O22: the checks of R75 in order, and the GO placed. -/
theorem startDecides : Obligations.StartDecides := by
  unfold Obligations.StartDecides
  intro s cfg position serves
  have taken : exec (.start position) s =
      .next (s.withStation (s.station.runRequest 0x0D#8 fun cfg => s.station.takeStart cfg 0x0D#8 position)) :=
    exec_commandOf_serves serves (.start position)
  refine ⟨fun notArmed => ?_, fun config armed t tables => ?_⟩
  · have refused (cfg : ConfigRecord) : s.station.takeStart cfg 0x0D#8 position = s.station.answer 0x0D#8 .badState [] :=
      if_pos notArmed
    exact taken.trans (by rw [Station.runRequest_refused refused])
  · rw [taken, Station.runRequest_configured config]
    simp only [← Station.legal_iff tables, Station.takeStart, startPosition, armed, ne_eq, not_true_eq_false, if_false]
    refine ⟨fun illegal => ?_, fun k legal expected unready before => ?_, fun legal ready => ?_⟩
    · simp only [eq_false_of_ne_true illegal, if_true]
    · simp only [legal, Bool.true_eq_false, if_false, Station.firstUnready_eq_some tables expected unready before, codeByte]
    · simp only [legal, Bool.true_eq_false, if_false, Station.firstUnready_eq_none tables ready, Station.fingerprint?, tables,
        Option.map_some, Option.getD_some, Station.placeControl]

/-- Settles O23: the checks of R85 in order, and the RESUME placed at the position of R35. -/
theorem resumeDecides : Obligations.ResumeDecides := by
  unfold Obligations.ResumeDecides
  have taken {s : State} (serves : s.station.Serves) : exec .resumeRequest s =
      .next (s.withStation (s.station.runRequest 0x0F#8 fun cfg => s.station.takeResume cfg 0x0F#8)) :=
    exec_commandOf_serves serves .resume
  refine ⟨fun s serves notHeld => ?_, fun s cfg p t serves => ?_⟩
  · have refused (cfg : ConfigRecord) : s.station.takeResume cfg 0x0F#8 = s.station.answer 0x0F#8 .badState [] :=
      if_pos (.inl notHeld)
    exact (taken serves).trans (by rw [Station.runRequest_refused refused])
  · dsimp only
    intro config held position tables
    have now : s.station.positionNow = p := by rw [Station.positionNow, position, Option.getD_some]
    have resumed : s.station.resumePosition p =
        if p.park = .wait then (if p.whole + 1 = t.passLength then ((p.pass + 1) % 2 ^ 32, 0) else (p.pass, p.whole + 1))
        else (p.pass, p.whole) := by
      simp only [Station.resumePosition, Station.lastWhole_iff tables, nextPass, Nat.reducePow]
    rw [taken serves, Station.runRequest_configured config, Station.takeResume]
    simp only [now, ← resumed, show latchedSet s.station.ctl.reasons = s.station.ctl.reasons &&& 0b1111111000#10 from rfl]
    refine ⟨fun finished => ?_, fun unfinished latched => ?_, fun k unfinished empty expected unready before => ?_,
      fun unfinished empty ready => ?_⟩
    · rw [if_pos (.inr finished)]
    · rw [if_neg (by simp [held, unfinished]), if_pos latched]
    · rw [if_neg (by simp [held, unfinished]), if_neg (not_not.mpr empty),
        Station.firstUnready_eq_some tables expected unready before]
      rfl
    · rw [if_neg (by simp [held, unfinished]), if_neg (not_not.mpr empty), Station.firstUnready_eq_none tables ready,
        Station.fingerprint?, tables]
      rfl

/-! ### HOLD and ACKNOWLEDGE -/

/-- Settles O24: R69 in each state, and the bits that R68 leaves. -/
theorem holdAndAcknowledgeDecide : Obligations.HoldAndAcknowledgeDecide := by
  unfold Obligations.HoldAndAcknowledgeDecide
  refine ⟨fun s cfg serves => ?_, fun s reasons serves => ?_⟩
  · have taken : exec .holdRequest s =
        .next (s.withStation (s.station.runRequest 0x0E#8 fun cfg => s.station.takeHold cfg 0x0E#8)) :=
      exec_commandOf_serves serves .hold
    rw [taken]
    refine ⟨fun config may => ?_, fun config held => ?_, fun mayNot => ?_⟩
    · rw [Station.runRequest_configured config]
      rcases may with mode | mode | mode | mode <;> simp only [Station.takeHold, mode, Station.reportReason]
    · rw [Station.runRequest_configured config]
      simp only [Station.takeHold, held, Station.reportReason, Station.takeReason, Station.insertReason, addReasonBit,
        show HoldReason.host.bit = 1#10 by decide]
    · rw [Station.runRequest_refused fun cfg => ?_]
      cases mode : s.station.ctl.mode <;> simp only [Station.takeHold, mode] <;> simp [mode] at mayNot
  · have taken : exec (.acknowledge reasons) s = .next (s.withStation (s.station.takeAcknowledge 0x10#8 reasons)) :=
      exec_commandOf_serves serves (.acknowledge reasons)
    rw [taken, Station.takeAcknowledge]
    refine ⟨fun mode => by rw [if_pos mode], fun mode =>
      ⟨s.station.ctl.reasons &&& ~~~(latchedSet (reasons.setWidth 10)), fun i => ?_, by rw [if_neg mode]⟩⟩
    have latched : ∀ i : Fin 10, latchedKind[i.val] = decide (3 ≤ i.val) := by decide
    simp [latchedSet, latched i, Bool.and_comm]

/-! ### SET-LEVEL, the side requests, EVENTS-CLEAR and REPORT-RATE -/

/-- Settles O26: SET-LEVEL, SIDE-SEND and SIDE-READ. -/
theorem setLevelAndSideRequestsDecide : Obligations.SetLevelAndSideRequestsDecide := by
  unfold Obligations.SetLevelAndSideRequestsDecide
  refine ⟨fun s target serves => ⟨fun mode => ?_, fun r mode regs => ?_⟩,
    fun s word serves => ⟨fun mode => ?_, fun mode full => ?_, fun mode room => ?_, ?_⟩⟩
  · refine (exec_commandOf_serves serves (.setLevel target)).trans ?_
    cases regs : s.station.engine.regs <;> simp only [Station.takeRequest, Station.takeSetLevel, regs, if_pos mode, kindOf]
  · refine (exec_commandOf_serves serves (.setLevel target)).trans ?_
    simp only [Station.takeRequest, Station.takeSetLevel, regs, if_neg mode, kindOf]
  · refine (exec_commandOf_serves serves (.sideSend word)).trans ?_
    rw [Station.takeRequest, Station.takeSideSend, if_pos mode]
    rfl
  · refine (exec_commandOf_serves serves (.sideSend word)).trans ?_
    rw [Station.takeRequest, Station.takeSideSend, if_neg mode, if_pos (show sideCapacity ≤ _ from full)]
    rfl
  · refine (exec_commandOf_serves serves (.sideSend word)).trans ?_
    rw [Station.takeRequest, Station.takeSideSend, if_neg mode,
      if_neg (show ¬ sideCapacity ≤ _ from Nat.not_le.mpr room)]
    rfl
  · exact exec_commandOf_serves serves .sideRead

/-- Settles O27: EVENTS-CLEAR by bits, and REPORT-RATE. -/
theorem eventsClearAndReportRate : Obligations.EventsClearAndReportRate := by
  unfold Obligations.EventsClearAndReportRate
  intro s serves
  refine ⟨fun events => ?_, fun n => ?_⟩
  · have taken : exec (.eventsClear events) s = .next (s.withStation (s.station.takeEventsClear 0x19#8 events)) :=
      exec_commandOf_serves serves (.eventsClear events)
    rw [taken, Station.takeEventsClear]
    refine ⟨fun mode => by rw [if_pos mode], fun mode =>
      ⟨s.station.events.latched &&& ~~~(events.setWidth 15), fun i => ?_, by rw [if_neg mode]; rfl⟩⟩
    simp
  · have taken : exec (.reportRate n) s = .next (s.withStation (s.station.takeReportRate 0x1A#8 n)) :=
      exec_commandOf_serves serves (.reportRate n)
    have pending : (s.station.port.reportPending && n.toNat != 0) = if n = 0#8 then false else s.station.port.reportPending := by
      by_cases hn : n = 0#8
      · simp [hn]
      · have : n.toNat ≠ 0 := by bv_omega
        simp [hn, this]
    rw [taken, Station.takeReportRate, pending]
    exact ⟨fun mode => by rw [if_pos mode], fun mode => by rw [if_neg mode]⟩

end Sys2Proof.Machine
end
section
/-! THE COMMANDS OF THE HOST PORT (R172 to R179, R185, R193, R194). -/

namespace Sys2Proof.Machine

/-! ### The transmitter and the service, case by case -/

section
variable {st : Station}

theorem isResetOk_iff (r : HostReply) : isResetOk (some r) = true ↔ r.kind = 0x1B#8 ∧ r.code = .ok := by
  simp [isResetOk, resetKind]

theorem Station.transmitterTake_sending (sending : st.port.sending ≠ none) : st.transmitterTake = st := by
  unfold transmitterTake
  cases hs : st.port.sending with
  | none => exact absurd hs sending
  | some r => rfl

theorem Station.transmitterTake_reply {r : HostReply} (idle : st.port.sending = none) (reply : st.port.reply = some r) :
    st.transmitterTake = { st with port := { st.port with reply := none, sending := some r } } := by
  simp only [transmitterTake, idle, reply]

theorem Station.transmitterTake_busy {kind : Byte} {rest : List Byte} (idle : st.port.sending = none)
    (reply : st.port.reply = none) (busy : st.port.busy = kind :: rest) :
    st.transmitterTake = { st with port := { st.port with busy := rest, sending := some (busyReply kind) } } := by
  simp only [transmitterTake, idle, reply, busy]

theorem Station.transmitterTake_report (idle : st.port.sending = none) (reply : st.port.reply = none)
    (busy : st.port.busy = []) (pending : st.port.reportPending = true) :
    st.transmitterTake = { st with port := { st.port with reportPending := false, sending := some st.report } } := by
  simp only [transmitterTake, idle, reply, busy, pending, if_true]

theorem Station.transmitterTake_idle (reply : st.port.reply = none) (busy : st.port.busy = [])
    (pending : st.port.reportPending = false) : st.transmitterTake = st := by
  cases idle : st.port.sending with
  | none => simp only [transmitterTake, idle, reply, busy, pending, Bool.false_eq_true, if_false]
  | some r => exact transmitterTake_sending (by simp [idle])

/-- Nothing is served beside a filled reply place or before a reset to come (R176, R179). -/
theorem Station.serveWaiting_closed (closed : st.port.reply ≠ none ∨ st.port.resetting = true) : st.serveWaiting = st := by
  refine if_pos ?_
  rcases closed with reply | resetting
  · simp [Option.isSome_iff_ne_none.mpr reply]
  · simp [resetting]

theorem Station.serveWaiting_empty (empty : st.port.buffers = []) : st.serveWaiting = st := by
  unfold serveWaiting
  split
  · rfl
  · simp only [empty]

theorem Station.serveWaiting_open {f : HostFrame} {rest : List HostFrame} (opened : st.port.Open)
    (waiting : st.port.buffers = f :: rest) :
    st.serveWaiting = ({ st with port := { st.port with buffers := rest } } : Station).serve f := by
  obtain ⟨reply, still⟩ := opened
  simp [serveWaiting, reply, still, waiting]

theorem Station.joinBuffers_room {f : HostFrame} (room : st.port.buffers.length < 2) :
    st.joinBuffers f = { st with port := { st.port with buffers := st.port.buffers ++ [f] } } := if_pos room

theorem Station.joinBuffers_queue {f : HostFrame} (full : 2 ≤ st.port.buffers.length) (queue : st.port.busy.length < 8) :
    st.joinBuffers f = { st with port := { st.port with busy := st.port.busy ++ [kindReceived f] } } :=
  (if_neg (Nat.not_lt.mpr full)).trans (if_pos queue)

theorem Station.joinBuffers_full {f : HostFrame} (full : 2 ≤ st.port.buffers.length) (queued : 8 ≤ st.port.busy.length) :
    st.joinBuffers f = { st with port := { st.port with overrun := min 65535 (st.port.overrun + 1) } } :=
  (if_neg (Nat.not_lt.mpr full)).trans (if_neg (Nat.not_lt.mpr queued))

/-- A port that is sending, and has its reply place filled or a reset to come, stands (R176, R179). -/
theorem Station.settlePort_blocked (sending : st.port.sending ≠ none)
    (closed : st.port.reply ≠ none ∨ st.port.resetting = true) : st.settlePort = st := by
  rw [settlePort, transmitterTake_sending sending, serveWaiting_closed closed, serveWaiting_closed closed]

end

/-! ### STATION-RESET -/

/-- Settles O28: the reply first, and the reset when that reply has been sent. -/
theorem stationResetWaitsForItsReply : Obligations.StationResetWaitsForItsReply := by
  unfold Obligations.StationResetWaitsForItsReply
  refine ⟨fun s serves => exec_commandOf_serves serves .stationReset, fun s body running sending => ?_, fun s other => ?_⟩
  · have resetOk : isResetOk s.station.port.sending = true := by
      rw [sending]
      rfl
    have sent : s.station.frameSent = s.station.softReset := by
      simp only [Station.frameSent, sending]
      exact if_pos rfl
    constructor
    · show s.act _ = _
      simp only [State.act, running, if_true, sent]
      rfl
    · show s.act _ = _
      simp only [State.act, running, resetOk, Bool.and_self, if_true]
      rfl
  · have notReset : isResetOk s.station.port.sending = false := by
      cases sending : s.station.port.sending with
      | none => rfl
      | some r =>
        by_contra ok
        obtain ⟨kind, code⟩ := (isResetOk_iff r).mp (by simpa using ok)
        exact other r.body (by rw [sending, ← kind, ← code])
    show s.act _ = _
    simp only [State.act, notReset, Bool.and_false, Bool.false_eq_true, if_false]

/-! ### A request that waits, and a frame that is refused -/

/-- Settles O29: a blocked port takes the frame by R175 and serves nothing. -/
theorem requestsWaitTheirTurn : Obligations.RequestsWaitTheirTurn := by
  unfold Obligations.RequestsWaitTheirTurn
  intro s r running st port blocked
  have sending : s.station.port.sending ≠ none := by
    rcases blocked with ⟨sending, -⟩ | ⟨body, sending⟩
    · exact sending
    · exact fun idle => by cases sending.symm.trans idle
  have closed : s.station.port.reply ≠ none ∨ s.station.port.resetting = true := by
    rcases blocked with ⟨-, reply⟩ | ⟨body, sending⟩
    · exact .inl reply
    · refine .inr ?_
      rw [HostPort.resetting, show s.station.port.sending = _ from sending]
      exact Bool.or_true _
  have notReady : s.station.port.ready = false := by
    rcases closed with reply | resetting
    · simp [HostPort.ready, reply]
    · simp [HostPort.ready, resetting]
  have taken : exec (commandOf r) s = .next (s.withStation ((s.station.joinBuffers (frameOf r)).settlePort)) := by
    rw [exec_commandOf, Station.hostRequest, if_pos running, if_neg (by simp [notReady])]
    rfl
  have stands {st' : Station} (joined : s.station.joinBuffers (frameOf r) = st') (sending' : st'.port.sending ≠ none)
      (closed' : st'.port.reply ≠ none ∨ st'.port.resetting = true) : exec (commandOf r) s = .next (s.withStation st') := by
    rw [taken, joined, Station.settlePort_blocked sending' closed']
  refine ⟨fun room => ?_, fun full queue => ?_, fun full queued => ?_⟩
  · exact stands (Station.joinBuffers_room room) sending closed
  · exact stands (Station.joinBuffers_queue full queue) sending closed
  · exact stands (Station.joinBuffers_full full queued) sending closed

section
variable {st : Station}

/-- A frame that completes at a settled port that serves is served at once. -/
theorem Station.frameCompletes_serves (serves : st.Serves) (ok : st.PortOk) (f : HostFrame) :
    st.frameCompletes f = (st.serve f).serveWaiting := by
  obtain ⟨-, ready⟩ := serves
  obtain ⟨-, -, -, -, -, idle, -⟩ := ok
  simp only [HostPort.ready, Bool.and_eq_true, Option.isNone_iff_eq_none, List.isEmpty_iff, Bool.not_eq_true'] at ready
  obtain ⟨⟨reply, empty⟩, still⟩ := ready
  have joined : st.joinBuffers f = { st with port := { st.port with buffers := [f] } } := by
    rw [joinBuffers, if_pos (by rw [empty]; decide), empty]
    rfl
  have stands : ({ st with port := { st.port with buffers := [f] } } : Station).transmitterTake =
      { st with port := { st.port with buffers := [f] } } := by
    cases sending : st.port.sending with
    | some r => exact transmitterTake_sending (by simp [sending])
    | none =>
      obtain ⟨-, busy, pending, -⟩ := idle sending
      exact transmitterTake_idle reply busy pending
  have served : ({ st with port := { st.port with buffers := [f] } } : Station).serveWaiting = st.serve f := by
    refine (serveWaiting_open (st := { st with port := { st.port with buffers := [f] } }) ⟨reply, still⟩ rfl).trans ?_
    simp only
    rw [← empty]
  rw [frameCompletes, joined, settlePort, stands, served]

theorem Station.answer_buffers (kind : Byte) (code : ResultCode) (body : List Byte) :
    (st.answer kind code body).port.buffers = st.port.buffers := by
  rcases HostPort.answer_cases st.port { kind := kind, code := code, body := body } with ⟨-, answered⟩ | ⟨-, answered⟩ <;>
    rw [answer, answered]

/-- A frame refused at a settled port that serves is answered, and nothing waits after it (R176, R177). -/
theorem Station.frameCompletes_refused (serves : st.Serves) (ok : st.PortOk) {f : HostFrame} {kind : Byte} {code : ResultCode}
    {body : List Byte} (refused : verdict f = .refused kind code body) : st.frameCompletes f = st.answer kind code body := by
  have served : st.serve f = st.answer kind code body := by simp only [serve, refused]
  have empty : st.port.buffers = [] := by
    have := serves.2
    simp only [HostPort.ready, Bool.and_eq_true, List.isEmpty_iff] at this
    exact this.1.2
  rw [frameCompletes_serves serves ok, served, serveWaiting_empty ((answer_buffers ..).trans empty)]

end

/-- A kind that names no request has no size (R176). -/
theorem sizeAllowed_unknown {kind : Byte} (h : kind.toNat = 0 ∨ 27 < kind.toNat) (n : Nat) : sizeAllowed kind n = none := by
  unfold sizeAllowed
  split <;> first | rfl | (rename_i hk; omega)

/-- Settles O30: the four checks of R176. -/
theorem refusedFrameIsAnswered : Obligations.RefusedFrameIsAnswered := by
  unfold Obligations.RefusedFrameIsAnswered
  intro s serves ok
  have taken {f : HostFrame} {kind : Byte} {code : ResultCode} {body : List Byte} (refused : verdict f = .refused kind code body) :
      exec (.hostFrameRefused f) s = .next (s.withStation (s.station.answer kind code body)) := by
    show s.act _ = _
    simp only [State.act, serves.1, if_true, Station.frameCompletes_refused serves ok refused]
    rfl
  refine ⟨fun kind => taken rfl, fun kind payload crc differs => taken (if_pos differs), fun kind payload unknown => taken ?_,
    fun kind payload size => taken ?_⟩
  · rw [verdict, if_neg (not_not.mpr rfl), sizeAllowed_unknown unknown]
  · rw [verdict, if_neg (not_not.mpr rfl), size]
    rfl

/-! ### Bytes that make a frame -/

theorem ofLe_leBytes : ∀ n v : Nat, ofLe (leBytes n v) = v % 256 ^ n
  | 0, v => by simp [leBytes, ofLe, Nat.mod_one]
  | n + 1, v => by
    have split : v % (256 * 256 ^ n) = v % 256 + 256 * (v / 256 % 256 ^ n) := Nat.mod_mul
    rw [leBytes, ofLe, ofLe_leBytes n, BitVec.toNat_ofNat, pow_succ' (256 : Nat), split]

/-- The station whose receiver has collected bytes, the last of them just now. -/
def Station.collecting (st : Station) (bytes : List Byte) : Station :=
  { st with port := { st.port with receiver := .collecting bytes, partialTimer := some 0, byteSeen := true } }

/-- One byte in front of the queue is one step. -/
theorem run_hostByte {st : Station} (running : st.running = true) (n : Nat) (b : Byte) (rest : List Instr) :
    core.run (n + 1) { pending := .hostByte b :: rest, station := st } =
      core.run n { pending := rest, station := st.takeHostByte b } := by
  have taken : core.step { pending := .hostByte b :: rest, station := st } =
      .next ({ pending := rest, station := st.takeHostByte b } : State) := by
    show State.act _ _ = _
    simp only [State.act, running, if_true]
    rfl
  exact (Host.Core.run.eq_2 core _ n).trans (by rw [taken])

section
variable {st : Station} {f : HostFrame}

/-- Bytes that complete a frame at the last of them, and none before, are that frame (R172, R173). -/
theorem run_collecting (running : st.running = true) (hunting : st.port.receiver = .hunting) (timer : st.port.partialTimer = none) :
    ∀ (bytes pre : List Byte), bytes ≠ [] → completedFrame (pre ++ bytes) = some f →
      (∀ k, 0 < k → k < bytes.length → completedFrame (pre ++ bytes.take k) = none) →
      core.run bytes.length { pending := bytes.map .hostByte, station := st.collecting pre } =
        .next { pending := [], station :=
          ({ st with port := { st.port with byteSeen := true } } : Station).frameCompletes f }
  | [], _, filled, _, _ => absurd rfl filled
  | [b], pre, _, completes, _ => by
    have seen : ({ st with port := { st.port with receiver := .hunting, partialTimer := none, byteSeen := true } } : Station) =
        { st with port := { st.port with byteSeen := true } } := by
      rw [← hunting, ← timer]
    have taken : (st.collecting pre).takeHostByte b =
        ({ st with port := { st.port with byteSeen := true } } : Station).frameCompletes f := by
      rw [← seen]
      simp only [Station.takeHostByte, Station.collecting, completes]
    exact (run_hostByte (st := st.collecting pre) running 0 b []).trans (by rw [taken]; rfl)
  | b :: c :: rest, pre, _, completes, before => by
    have first := before 1 Nat.zero_lt_one (by simp)
    have taken : (st.collecting pre).takeHostByte b = st.collecting (pre ++ [b]) := by
      simp only [Station.takeHostByte, Station.collecting]
      rw [show completedFrame (pre ++ [b]) = none from first]
    refine (run_hostByte (st := st.collecting pre) running _ b ((c :: rest).map .hostByte)).trans ?_
    rw [taken]
    refine run_collecting running hunting timer (c :: rest) (pre ++ [b]) (by simp) (by simpa using completes) fun k pos below => ?_
    have := before (k + 1) (Nat.succ_pos k) (Nat.succ_lt_succ below)
    simpa using this

/-- Fewer than three bytes complete no frame. -/
theorem completedFrame_short : ∀ {bytes : List Byte}, bytes.length < 3 → completedFrame bytes = none
  | [], _ => rfl
  | [_], _ => rfl
  | [_, _], _ => rfl
  | _ :: _ :: _ :: _, h => by simp at h; omega

/-- After the start byte the rest of a frame completes it (R172). -/
theorem run_frame (running : st.running = true) (hunting : st.port.receiver = .hunting) (timer : st.port.partialTimer = none)
    {bytes : List Byte} (filled : bytes ≠ []) (completes : completedFrame (0xA5#8 :: bytes) = some f)
    (before : ∀ k, 0 < k → k < bytes.length → completedFrame (0xA5#8 :: bytes.take k) = none) :
    core.run (bytes.length + 1) { pending := .hostByte 0xA5#8 :: bytes.map .hostByte, station := st } =
      .next { pending := [], station := ({ st with port := { st.port with byteSeen := true } } : Station).frameCompletes f } := by
  have taken : st.takeHostByte 0xA5#8 = st.collecting [0xA5#8] := by
    simp only [Station.takeHostByte, hunting, Station.collecting]
    exact if_pos rfl
  rw [run_hostByte running, taken]
  exact run_collecting running hunting timer bytes [0xA5#8] filled completes before

end

/-- Settles O31: the bytes complete their frame at the last of them. -/
theorem hostBytesMakeAFrame : Obligations.HostBytesMakeAFrame := by
  unfold Obligations.HostBytesMakeAFrame
  intro st running hunting timer
  have overLong (length kind : Byte) (long : 112 < length.toNat) :
      core.run 3 { pending := [.hostByte 0xA5#8, .hostByte length, .hostByte kind], station := st } =
        .next { pending := [], station :=
          ({ st with port := { st.port with byteSeen := true } } : Station).frameCompletes (.overLong kind) } := by
    refine run_frame running hunting timer (bytes := [length, kind]) (by simp) (if_pos long) fun k pos below => ?_
    exact completedFrame_short (by simp at below ⊢; omega)
  refine ⟨fun f fits => ?_, overLong⟩
  cases f with
  | overLong kind => exact overLong 0xFF#8 kind (by decide)
  | whole kind payload crc =>
    have room : payload.length ≤ 112 := of_decide_eq_true fits
    have length : (BitVec.ofNat 8 payload.length).toNat = payload.length := by
      rw [BitVec.toNat_ofNat]
      exact Nat.mod_eq_of_lt (by omega)
    have short : ¬ payloadMax < payload.length := Nat.not_lt.mpr room
    refine run_frame running hunting timer (bytes := BitVec.ofNat 8 payload.length :: kind :: (payload ++ leBytes 2 crc.toNat))
      (by simp) ?_ fun k pos below => ?_
    · have check : BitVec.ofNat 16 (ofLe (leBytes 2 crc.toNat)) = crc := by
        rw [ofLe_leBytes, Nat.mod_eq_of_lt (show crc.toNat < 256 ^ 2 from crc.isLt), BitVec.ofNat_toNat, BitVec.setWidth_eq]
      simp [completedFrame, short, length, check]
    · match k with
      | 1 => exact completedFrame_short (by simp)
      | k + 2 =>
        have short' : (List.take k (payload ++ leBytes 2 crc.toNat)).length ≠ payload.length + 2 := by
          simp at below ⊢
          omega
        simp only [List.take_succ_cons, completedFrame, length, if_neg short, if_neg short']

/-! ### The two timers -/

theorem HostPort.partialExpires_iff (port : HostPort) : port.partialExpires = true ↔
    port.receiver ≠ .hunting ∧ port.byteSeen = false ∧ ∃ n, port.partialTimer = some n ∧ 64 ≤ n + 1 := by
  cases receiver : port.receiver <;> cases timer : port.partialTimer <;>
    simp [partialExpires, receiver, timer, partialLimit]

theorem HostPort.reportComesDue_iff {port : HostPort} {n k : Nat} (interval : port.reportInterval = some n)
    (timer : port.reportTimer = some k) : port.reportComesDue = true ↔ n ≠ 0 ∧ n * 64 ≤ k + 1 := by
  simp [reportComesDue, interval, timer]

section
variable {st : Station}

theorem Station.partialTick_expired (h : st.port.partialExpires = true) :
    st.partialTick = { st with port := { st.port with receiver := .hunting, partialTimer := none, byteSeen := false } } := by
  simp only [partialTick, h, if_true, discardPartial]

theorem Station.partialTick_counts (h : ¬ st.port.partialExpires = true) :
    st.partialTick = { st with port :=
      { st.port with
        partialTimer := if st.port.byteSeen then st.port.partialTimer else st.port.partialTimer.map (· + 1)
        byteSeen := false } } := by
  simp only [partialTick, if_neg h]
  split <;> rfl

/-- What a report timer's tick and a report leave of the port, the transmitter and the report fields apart. -/
def HostPort.SameReceiver (p q : HostPort) : Prop :=
  p.receiver = q.receiver ∧ p.partialTimer = q.partialTimer ∧ p.byteSeen = q.byteSeen

theorem Station.transmitterTake_receiver :
    st.transmitterTake.port.SameReceiver st.port ∧ st.transmitterTake.port.reportTaken = st.port.reportTaken ∧
      st.transmitterTake.port.reportTimer = st.port.reportTimer := by
  unfold transmitterTake
  split
  · exact ⟨⟨rfl, rfl, rfl⟩, rfl, rfl⟩
  · split
    · exact ⟨⟨rfl, rfl, rfl⟩, rfl, rfl⟩
    · exact ⟨⟨rfl, rfl, rfl⟩, rfl, rfl⟩
    · split <;> exact ⟨⟨rfl, rfl, rfl⟩, rfl, rfl⟩

theorem Station.reportFalls_sending (sending : st.port.sending ≠ none) :
    st.reportFalls = { st with port := { st.port with reportTimer := some 0, reportPending := true } } :=
  transmitterTake_sending (st := { st with port := { st.port with reportTimer := some 0, reportPending := true } }) sending

theorem Station.reportFalls_idle (idle : st.port.sending = none) (reply : st.port.reply = none) (busy : st.port.busy = []) :
    st.reportFalls = { st with port :=
      { st.port with reportTimer := some 0, reportPending := false, sending := some st.report } } :=
  transmitterTake_report (st := { st with port := { st.port with reportTimer := some 0, reportPending := true } })
    idle reply busy rfl

theorem Station.reportTick_taken (taken : st.port.reportTaken = true) :
    st.reportTick = { st with port := { st.port with reportTaken := false } } := if_pos taken

theorem Station.reportTick_falls (open' : st.port.reportTaken = false) (due : st.port.reportComesDue = true) :
    st.reportTick = st.reportFalls := by
  simp [reportTick, open', due]

/-- A report timer that does not come due stands with n = 0 and counts with any other n (R185). -/
theorem Station.reportTick_counts {n k : Nat} (open' : st.port.reportTaken = false)
    (interval : st.port.reportInterval = some n) (timer : st.port.reportTimer = some k) (early : ¬ (n ≠ 0 ∧ n * 64 ≤ k + 1)) :
    st.reportTick = { st with port := { st.port with reportTimer := some (if n = 0 then k else k + 1) } } := by
  have notDue : st.port.reportComesDue = false := by
    simpa using mt (HostPort.reportComesDue_iff interval timer).mp early
  by_cases h : n = 0
  · subst h
    have stands : st.reportTick = st := by simp [reportTick, open', notDue, interval]
    rw [stands, if_pos rfl, ← timer]
  · simp [reportTick, open', notDue, interval, timer, h]

/-- The report timer's tick leaves the receiver, and its own mark cleared (R185; log entry 8). -/
theorem Station.reportTick_receiver : st.reportTick.port.SameReceiver st.port ∧ st.reportTick.port.reportTaken = false := by
  have falls : st.reportFalls.port.SameReceiver st.port ∧ st.reportFalls.port.reportTaken = st.port.reportTaken := by
    obtain ⟨same, taken, -⟩ := transmitterTake_receiver
      (st := { st with port := { st.port with reportTimer := some 0, reportPending := true } })
    exact ⟨same, taken⟩
  cases taken : st.port.reportTaken with
  | true =>
    rw [reportTick_taken taken]
    exact ⟨⟨rfl, rfl, rfl⟩, rfl⟩
  | false =>
    rw [reportTick, if_neg (by simp [taken])]
    split_ifs
    · exact ⟨falls.1, falls.2.trans taken⟩
    · exact ⟨⟨rfl, rfl, rfl⟩, taken⟩
    · exact ⟨⟨rfl, rfl, rfl⟩, taken⟩

end

/-- A command that finds the station running. -/
theorem State.act_running {s : State} (running : s.station.running = true) (f : Station → Station) :
    s.act (fun st => if st.running then f st else st) = .next (s.withStation (f s.station)) := by
  simp only [State.act, running, if_true]
  rfl

/-- An update of a running station that is not configured counts the partial-frame timer alone (R171, R174). -/
theorem exec_update_unconfigured {s : State} (running : s.station.running = true) (unconfigured : s.station.config = none)
    (inA inB : BitVec 48) : exec (.update inA inB) s = .next (s.withStation s.station.partialTick) := by
  refine (State.act_running running fun st => match st.config with
    | none => st.partialTick
    | some cfg => st.configuredUpdate cfg inA inB).trans ?_
  simp only [unconfigured]

/-- An update of a running, configured station: the work of the blocks, and then the port's two timers. -/
theorem exec_update_configured {s : State} {cfg : ConfigRecord} (runs : s.station.RunsIn cfg) (inA inB : BitVec 48) :
    exec (.update inA inB) s = .next (s.withStation ((s.station.blocksUpdate cfg inA inB).partialTick.reportTick)) := by
  refine (State.act_running runs.1 fun st => match st.config with
    | none => st.partialTick
    | some cfg => st.configuredUpdate cfg inA inB).trans ?_
  simp only [runs.2, Station.configuredUpdate_eq]

/-- REPORT_DUE at its point (R185; log entry 8). -/
theorem exec_reportDue {s : State} {cfg : ConfigRecord} (runs : s.station.RunsIn cfg)
    (due : s.station.port.reportComesDue = true) (notTaken : s.station.port.reportTaken = false) :
    exec .reportDue s = .next (s.withStation
      ({ s.station with port := { s.station.port with reportTaken := true } } : Station).reportFalls) := by
  refine (show exec .reportDue s = execReportDue s from rfl).trans ?_
  simp only [execReportDue, State.act, Station.whenConfigured_runs runs, due, notTaken, Bool.not_false, Bool.and_self, if_true]
  rfl

section
variable {st : Station}

/-- The partial-frame timer's tick leaves the transmitter and the report fields (R174). -/
theorem Station.partialTick_report (st : Station) :
    st.partialTick.port.sending = st.port.sending ∧ st.partialTick.port.reply = st.port.reply ∧
      st.partialTick.port.busy = st.port.busy ∧ st.partialTick.port.reportPending = st.port.reportPending ∧
      st.partialTick.port.reportTimer = st.port.reportTimer ∧ st.partialTick.port.reportInterval = st.port.reportInterval ∧
      st.partialTick.port.reportTaken = st.port.reportTaken := by
  by_cases expires : st.port.partialExpires = true
  · rw [partialTick_expired expires]
    exact ⟨rfl, rfl, rfl, rfl, rfl, rfl, rfl⟩
  · rw [partialTick_counts expires]
    exact ⟨rfl, rfl, rfl, rfl, rfl, rfl, rfl⟩

/-- The partial-frame timer through the two ticks of an update (R174). -/
theorem Station.portTicks_receiver (st : Station) :
    let now := st.partialTick.reportTick.port
    now.byteSeen = false ∧ now.reportTaken = false ∧
      (st.port.partialExpires = true → now.receiver = .hunting ∧ now.partialTimer = none) ∧
      (¬ st.port.partialExpires = true → now.receiver = st.port.receiver ∧
        now.partialTimer = (if st.port.byteSeen then st.port.partialTimer else st.port.partialTimer.map (· + 1))) := by
  obtain ⟨⟨receiver, timer, seen⟩, taken⟩ := reportTick_receiver (st := st.partialTick)
  dsimp only
  rw [receiver, timer, seen]
  refine ⟨rfl, taken, fun expires => ?_, fun stays => ?_⟩
  · rw [partialTick_expired expires]
    exact ⟨rfl, rfl⟩
  · rw [partialTick_counts stays]
    exact ⟨rfl, rfl⟩

/-- The report timer through the two ticks of an update, a report that falls due apart (R185). -/
theorem Station.portTicks_stand {n k : Nat} (open' : st.port.reportTaken = false)
    (interval : st.port.reportInterval = some n) (timer : st.port.reportTimer = some k) (early : ¬ (n ≠ 0 ∧ n * 64 ≤ k + 1)) :
    let now := st.partialTick.reportTick.port
    now.reportTimer = some (if n = 0 then k else k + 1) ∧ now.reportPending = st.port.reportPending ∧
      now.sending = st.port.sending := by
  obtain ⟨sending, -, -, pending, reportTimer, reportInterval, reportTaken⟩ := st.partialTick_report
  dsimp only
  rw [reportTick_counts (reportTaken.trans open') (reportInterval.trans interval) (reportTimer.trans timer) early]
  exact ⟨rfl, pending, sending⟩

/-- A report that falls due at the two ticks of an update (R178, R185). -/
theorem Station.portTicks_fall {n k : Nat} (open' : st.port.reportTaken = false)
    (interval : st.port.reportInterval = some n) (timer : st.port.reportTimer = some k) (positive : n ≠ 0)
    (late : n * 64 ≤ k + 1) :
    let now := st.partialTick.reportTick.port
    now.reportTimer = some 0 ∧
      (st.port.sending ≠ none → now.reportPending = true ∧ now.sending = st.port.sending) ∧
      (st.port.sending = none → st.port.reply = none → st.port.busy = [] → now.reportPending = false ∧
        now.sending = some { kind := 0x40#8, code := .ok, body := st.partialTick.reportTick.statusBody }) := by
  obtain ⟨sending, reply, busy, -, reportTimer, reportInterval, reportTaken⟩ := st.partialTick_report
  have due := (HostPort.reportComesDue_iff (reportInterval.trans interval) (reportTimer.trans timer)).mpr ⟨positive, late⟩
  dsimp only
  rw [reportTick_falls (reportTaken.trans open') due]
  refine ⟨transmitterTake_receiver.2.2, fun busySending => ?_, fun idle noReply noBusy => ?_⟩
  · rw [reportFalls_sending (sending ▸ busySending)]
    exact ⟨rfl, sending⟩
  · rw [reportFalls_idle (sending.trans idle) (reply.trans noReply) (busy.trans noBusy)]
    exact ⟨rfl, rfl⟩

end

/-- Settles O32: the rows by themselves, and the two ticks of an update after the drive line's stages. -/
theorem hostPortTimers : Obligations.HostPortTimers := by
  unfold Obligations.HostPortTimers
  refine ⟨fun s running => ?rows, fun s cfg inA inB runs => ?update⟩
  case rows =>
    have byte (b : Byte) : exec (.hostByte b) s = .next (s.withStation (s.station.takeHostByte b)) :=
      State.act_running running (·.takeHostByte b)
    dsimp only
    refine ⟨fun b hunting => ⟨fun other => ?_, fun start => ?_⟩, fun bytes collecting timer still => ?_,
      fun cfg n config interval positive timer notTaken => ?_⟩
    · simp only [byte, Station.takeHostByte, hunting, startByte, if_neg other]
    · simp only [byte, Station.takeHostByte, hunting, startByte, if_pos start]
    · have expires : s.station.port.partialExpires = true :=
        (HostPort.partialExpires_iff _).mpr ⟨by simp [collecting], still, 63, timer, le_refl _⟩
      refine ⟨?_, fun unconfigured inA inB => ?_⟩
      · show s.act _ = _
        simp only [State.act, running, expires, Bool.and_self, if_true]
        rfl
      · rw [exec_update_unconfigured running unconfigured, Station.partialTick_expired expires]
    · have due : s.station.port.reportComesDue = true :=
        (HostPort.reportComesDue_iff interval timer).mpr ⟨positive, by omega⟩
      refine ⟨fun sending => (exec_reportDue ⟨running, config⟩ due notTaken).trans ?_,
        fun idle reply busy => (exec_reportDue ⟨running, config⟩ due notTaken).trans ?_⟩
      · exact congrArg (fun x => Host.Outcome.next (s.withStation x)) (Station.reportFalls_sending sending)
      · exact congrArg (fun x => Host.Outcome.next (s.withStation x)) (Station.reportFalls_idle idle reply busy)
  case update =>
    dsimp only
    refine ⟨_, exec_update_configured runs inA inB, ?_⟩
    have port := Changes.port (Station.blocksUpdate_changes s.station cfg inA inB)
    rw [← port, ← HostPort.partialExpires_iff]
    show let b := s.station.blocksUpdate cfg inA inB; let now := b.partialTick.reportTick.port; _
    generalize s.station.blocksUpdate cfg inA inB = b
    obtain ⟨seen, taken, expired, stays⟩ := b.portTicks_receiver
    refine ⟨seen, taken, expired, stays, fun marked => ?_, fun n k unmarked interval count =>
      ⟨fun zero => ?_, fun early => ?_, fun positive late => Station.portTicks_fall unmarked interval count positive late⟩⟩
    · obtain ⟨sending, -, -, pending, reportTimer, -, reportTaken⟩ := b.partialTick_report
      rw [Station.reportTick_taken (reportTaken.trans marked)]
      exact ⟨reportTimer, pending, sending⟩
    · have := Station.portTicks_stand unmarked interval count (fun due => due.1 zero)
      rwa [if_pos zero] at this
    · have := Station.portTicks_stand unmarked interval count (by omega)
      rwa [if_neg (by omega)] at this

/-! ### The transmitter's next frame -/

section
variable {st : Station}

/-- A request served while the transmitter is sending fills the reply place (R177). -/
theorem Station.serve_fills (sending : st.port.sending ≠ none) (f : HostFrame) : (st.serve f).port.reply ≠ none := by
  obtain ⟨taken, reply, take, served⟩ := serve_answered st f
  have still : taken.port.sending ≠ none := by
    rcases take.port with same | ⟨n, pending, begun⟩
    · rwa [same]
    · rwa [begun]
  rcases HostPort.answer_cases taken.port reply with ⟨idle, -⟩ | ⟨-, answered⟩
  · exact absurd idle still
  · simp [served, answered]

/-- With nothing in the buffers the port settles as soon as the transmitter has taken its frame. -/
theorem Station.settlePort_empty (empty : st.port.buffers = []) : st.settlePort = st.transmitterTake := by
  have same : st.transmitterTake.port.buffers = st.port.buffers := by
    unfold transmitterTake
    split
    · rfl
    · split
      · rfl
      · rfl
      · split <;> rfl
  rw [settlePort, serveWaiting_empty (same.trans empty), serveWaiting_empty (same.trans empty)]

/-- A port whose transmitter's frame leaves no room to serve is settled with that frame (R176, R179). -/
theorem Station.settlePort_closed {st' : Station} (taken : st.transmitterTake = st')
    (closed : st'.port.reply ≠ none ∨ st'.port.resetting = true) : st.settlePort = st' := by
  rw [settlePort, taken, serveWaiting_closed closed, serveWaiting_closed closed]

/-- A port whose transmitter's frame leaves room to serve serves one frame: its answer fills the reply place (R176). -/
theorem Station.settlePort_serves {st' : Station} {f : HostFrame} {rest : List HostFrame} (taken : st.transmitterTake = st')
    (opened : st'.port.Open) (sending : st'.port.sending ≠ none) (waiting : st'.port.buffers = f :: rest) :
    st.settlePort = ({ st' with port := { st'.port with buffers := rest } } : Station).serve f := by
  rw [settlePort, taken, serveWaiting_open opened waiting]
  exact serveWaiting_closed (.inl (serve_fills (st := { st' with port := { st'.port with buffers := rest } }) sending f))

/-- The station whose transmitter has just become IDLE (R178). -/
def Station.idled (st : Station) : Station := { st with port := { st.port with sending := none } }

theorem Station.frameSent_other {sent : HostReply} (sending : st.port.sending = some sent)
    (notReset : isResetOk (some sent) = false) : st.frameSent = st.idled.settlePort := by
  simp only [frameSent, sending, notReset, Bool.false_eq_true, if_false, idled]

end

/-- Settles O33: the sources in order, and the service that a reply taken makes room for. -/
theorem transmitterTakesInOrder : Obligations.TransmitterTakesInOrder := by
  unfold Obligations.TransmitterTakesInOrder
  intro s sent running ok sending other
  have notReset : isResetOk (some sent) = false := by simpa using mt (isResetOk_iff sent).mp other
  have settles {st' : Station} (h : s.station.idled.settlePort = st') :
      exec .transmitterFrameSent s = .next (s.withStation st') := by
    rw [← h, ← Station.frameSent_other sending notReset]
    exact State.act_running running Station.frameSent
  have emptied (reply : s.station.port.reply = none) : s.station.idled.port.buffers = [] := by
    obtain ⟨-, -, -, -, -, -, waiting⟩ := ok
    refine waiting reply ?_
    rw [HostPort.resetting, reply, sending, notReset]
    rfl
  have takesReply {r : HostReply} (reply : s.station.port.reply = some r) :=
    Station.transmitterTake_reply (st := s.station.idled) rfl reply
  dsimp only
  refine ⟨fun r reply empty => settles ?_, fun r f rest reply waiting => ⟨fun reset => settles ?_, fun notOk => settles ?_⟩,
    fun kind rest reply busy => settles ?_, fun reply busy pending => settles ?_, fun reply busy pending => settles ?_⟩
  · exact (Station.settlePort_empty (st := s.station.idled) empty).trans (takesReply reply)
  · have closed : isResetOk (some r) = true := (isResetOk_iff r).mpr reset
    have resetting : HostPort.resetting { s.station.idled.port with reply := none, sending := some r } = true := by
      rw [HostPort.resetting, closed, Bool.or_true]
    exact Station.settlePort_closed (takesReply reply) (.inr resetting)
  · have notClosed : isResetOk (some r) = false := by simpa using mt (isResetOk_iff r).mp notOk
    have opened : HostPort.Open { s.station.idled.port with reply := none, sending := some r } :=
      ⟨rfl, by rw [HostPort.resetting, notClosed]; rfl⟩
    exact Station.settlePort_serves (takesReply reply) opened (by simp) waiting
  · exact (Station.settlePort_empty (emptied reply)).trans (Station.transmitterTake_busy rfl reply busy)
  · exact (Station.settlePort_empty (emptied reply)).trans (Station.transmitterTake_report rfl reply busy pending)
  · exact (Station.settlePort_empty (emptied reply)).trans (Station.transmitterTake_idle reply busy pending)

end Sys2Proof.Machine
end
section
/-! THE DRIVE LINE AND THE SUPERVISION UNIT (R140 to R165). -/

namespace Sys2Proof.Machine

section
variable {st : Station} {cfg : ConfigRecord}

/-! ### Judging a feedback -/

theorem inMask_iff (status mask : AmpStatus) : inMask status mask = true ↔ status &&& mask ≠ 0#8 := by simp [inMask]

/-- In the run group a reason taken joins the set (R65, R66). -/
theorem Station.takeReason_reasons (runGroup : st.ctl.mode.inRunGroup = true) (r : HoldReason) (k : StationNo) :
    (st.takeReason cfg r k).ctl.reasons = st.ctl.reasons ||| r.bit := by
  have started (m : Mode) : (((st.insertReason r).enterMode cfg m).startHold r k).ctl.reasons = st.ctl.reasons ||| r.bit := by
    unfold startHold
    simp only
    split <;> simp [insertReason, addReasonBit]
  cases mode : st.ctl.mode <;> simp [mode, Mode.inRunGroup] at runGroup <;> simp only [takeReason, mode, started] <;> rfl

/-- The reasons after a check that may take one more hold those before it. -/
theorem Station.takeReason_keeps (runGroup : st.ctl.mode.inRunGroup = true) (r : HoldReason) (k : StationNo) {n : Nat}
    (held : st.ctl.reasons.getLsbD n = true) : (st.takeReason cfg r k).ctl.reasons.getLsbD n = true := by
  rw [takeReason_reasons runGroup, BitVec.getLsbD_or, held, Bool.true_or]

/-- A status outside the trip mask passes the first check (R159). -/
theorem Station.tripMaskCheck_clear {status : AmpStatus} (clear : status &&& cfg.tripMask = 0#8) :
    st.tripMaskCheck cfg status = st := by
  have := (inMask_iff status cfg.tripMask).not.mpr (not_not.mpr clear)
  simp [tripMaskCheck, this]

/-- Outside the run group a feedback is not judged beyond the trip mask: the last check applied, the error and the tracking
counter alone change (R162 to R165). -/
theorem Station.checks_outside (outside : st.ctl.mode.inRunGroup = false) (status : AmpStatus) (force displacement answered : Int) :
    ((st.holdMaskCheck cfg status).windowCheck cfg force displacement).trackCheck cfg answered force displacement =
      { st with sup := { st.sup with
        lastApplied := some false, trackCount := 0
        lastError := some (answered - (if cfg.role = 1#8 then displacement else force)) } } := by
  simp [holdMaskCheck, windowCheck, trackCheck, setTrack, roleIsDisplacement, outside]

/-- A trip in a permit state enters TRIPPED (R91). -/
theorem Station.takeTrip_tripped (permit : st.ctl.mode.isPermit = true) (cause : TripCause) (k : StationNo) :
    (st.takeTrip cfg cause k).ctl.mode = .tripped := by
  simp only [takeTrip, permit, if_true]
  split <;> simp [placeTrip]

/-- The feedback of a valid response to a COMMAND, kept before it is judged (R118, R146, R147). -/
def Station.feedbackKept (st : Station) (cfg : ConfigRecord) (bits : BitVec 48) : Station := { st with
  drive := { st.drive with
    silence := some 0, force := some (bits.extractLsb' 32 16).toInt, displacement := some (bits.extractLsb' 16 16).toInt
    ampStatus := some (bits.extractLsb' 8 8) }
  peers := { st.peers with ownShare := roundDiv (cfg.weight.toInt * (bits.extractLsb' 32 16).toInt) 16384 } }

theorem Station.takeResponse_command {bits : BitVec 48} (valid : responseValid bits = true) {answered : Int}
    (known : st.drive.answered = some answered) :
    st.takeResponse cfg .command bits = (st.feedbackKept cfg bits).supervise cfg (bits.extractLsb' 32 16).toInt
      (bits.extractLsb' 16 16).toInt (bits.extractLsb' 8 8) answered := by
  simp only [takeResponse, valid, if_true, known]
  rfl

section
variable {status : AmpStatus} {force displacement answered : Int}

/-- A status in the trip mask trips a permit state, and the other checks find it outside the run group (R159, R162 to R165). -/
theorem Station.supervise_trips (tripping : status &&& cfg.tripMask ≠ 0#8) (permit : st.ctl.mode.isPermit = true) :
    st.supervise cfg force displacement status answered =
      { ({ st with sup := { st.sup with trippingStatus := some status } } : Station).takeTrip cfg .amp (own cfg) with
        sup := { (({ st with sup := { st.sup with trippingStatus := some status } } : Station).takeTrip cfg .amp (own cfg)).sup with
          lastApplied := some false, trackCount := 0
          lastError := some (answered - (if cfg.role = 1#8 then displacement else force)) } } := by
  have tripped := takeTrip_tripped (st := { st with sup := { st.sup with trippingStatus := some status } }) (cfg := cfg) permit .amp (own cfg)
  have checked : st.tripMaskCheck cfg status =
      ({ st with sup := { st.sup with trippingStatus := some status } } : Station).takeTrip cfg .amp (own cfg) := by
    simp only [tripMaskCheck, (inMask_iff ..).mpr tripping, permit, if_true]
  rw [supervise, checked]
  exact checks_outside (by rw [tripped]; rfl) ..

/-- A status in the trip mask raises TRIP in IDLE (R159). -/
theorem Station.supervise_idle (tripping : status &&& cfg.tripMask ≠ 0#8) (idle : st.ctl.mode = .idle) :
    st.supervise cfg force displacement status answered = { st with
      events := st.events.raise .trip
      sup := { st.sup with
        lastApplied := some false, trackCount := 0
        lastError := some (answered - (if cfg.role = 1#8 then displacement else force)) } } := by
  have checked : st.tripMaskCheck cfg status = st.raise .trip := by
    simp [tripMaskCheck, (inMask_iff ..).mpr tripping, idle, Mode.isPermit]
  rw [supervise, checked]
  exact checks_outside (st := st.raise .trip) (by rw [raise_ctl, idle]; rfl) ..

/-- Outside the run group a feedback that trips nothing and raises nothing changes what is not judged (R162 to R165). -/
theorem Station.supervise_outside (passes : st.tripMaskCheck cfg status = st) (outside : st.ctl.mode.inRunGroup = false) :
    st.supervise cfg force displacement status answered = { st with sup := { st.sup with
      lastApplied := some false, trackCount := 0
      lastError := some (answered - (if cfg.role = 1#8 then displacement else force)) } } := by
  rw [supervise, passes]
  exact checks_outside outside ..

/-- The second check in the run group: AMP on a status in the hold mask (R160). -/
def Station.holdJudged (st : Station) (cfg : ConfigRecord) (status : AmpStatus) : Station :=
  if status &&& cfg.holdMask = 0#8 then st else st.takeReason cfg .amp (own cfg)

/-- The third check in the run group: both window results kept, and WINDOW if either lies outside (R162). -/
def Station.windowJudged (st : Station) (cfg : ConfigRecord) (forceAt dispAt : WindowResult) : Station :=
  let windowed : Station := { st with
    sup := { st.sup with forceWindow := some forceAt, dispWindow := some dispAt, lastApplied := some true } }
  if forceAt = .inside ∧ dispAt = .inside then windowed else windowed.takeReason cfg .window (own cfg)

/-- The error kept and the tracking counter at n (R163, R164). -/
def Station.tracked (st : Station) (error : Int) (n : Nat) : Station :=
  { st with sup := { st.sup with lastError := some error, trackCount := n } }

theorem Station.holdJudged_runGroup : (st.holdJudged cfg status).ctl.mode.inRunGroup = st.ctl.mode.inRunGroup := by
  unfold holdJudged
  split
  · rfl
  · exact takeReason_runGroup ..

theorem Station.windowJudged_runGroup {forceAt dispAt : WindowResult} :
    (st.windowJudged cfg forceAt dispAt).ctl.mode.inRunGroup = st.ctl.mode.inRunGroup := by
  unfold windowJudged
  simp only
  split
  · rfl
  · exact takeReason_runGroup ..

theorem Station.holdJudged_sup : (st.holdJudged cfg status).sup = st.sup := by
  unfold holdJudged
  split
  · rfl
  · exact (takeReason_kept ..).1

theorem Station.windowJudged_trackCount {forceAt dispAt : WindowResult} :
    (st.windowJudged cfg forceAt dispAt).sup.trackCount = st.sup.trackCount := by
  unfold windowJudged
  simp only
  split
  · rfl
  · rw [(takeReason_kept ..).1]

theorem Station.holdMaskCheck_runGroup (runGroup : st.ctl.mode.inRunGroup = true) :
    st.holdMaskCheck cfg status = st.holdJudged cfg status := by
  have masked := inMask_iff status cfg.holdMask
  by_cases clear : status &&& cfg.holdMask = 0#8 <;> simp_all [holdMaskCheck, holdJudged, reportReason]

theorem Station.windowCheck_runGroup (runGroup : st.ctl.mode.inRunGroup = true) :
    st.windowCheck cfg force displacement = st.windowJudged cfg (windowOf cfg.forceMin.toInt cfg.forceMax.toInt force)
      (windowOf cfg.dispMin.toInt cfg.dispMax.toInt displacement) := by
  simp only [windowCheck, runGroup, if_true, windowJudged, reportReason, ne_eq, ← not_and_or, ite_not]

/-- The fourth check in the run group (R164). -/
theorem Station.trackCheck_runGroup (runGroup : st.ctl.mode.inRunGroup = true) :
    let error := answered - (if cfg.role = 1#8 then displacement else force)
    st.trackCheck cfg answered force displacement =
      if error.natAbs ≤ cfg.trackingLimit.toNat then st.tracked error 0
      else if st.sup.trackCount + 1 < cfg.trackingCount.toNat then st.tracked error (st.sup.trackCount + 1)
      else (st.tracked error 0).takeReason cfg .track (own cfg) := by
  simp only [trackCheck, runGroup, if_true, roleIsDisplacement, beq_iff_eq, ← Nat.not_le, ite_not, trackReached, reportReason]
  rfl

/-- The reasons after the third check hold those after the second, and WINDOW if a value lies outside (R162). -/
theorem Station.windowJudged_reasons (runGroup : st.ctl.mode.inRunGroup = true) (forceAt dispAt : WindowResult) :
    (st.windowJudged cfg forceAt dispAt).ctl.reasons =
      if forceAt = .inside ∧ dispAt = .inside then st.ctl.reasons else st.ctl.reasons ||| HoldReason.window.bit := by
  unfold windowJudged
  simp only
  split
  · rfl
  · exact takeReason_reasons (by exact runGroup) ..

theorem Station.holdJudged_reasons (runGroup : st.ctl.mode.inRunGroup = true) :
    (st.holdJudged cfg status).ctl.reasons =
      if status &&& cfg.holdMask = 0#8 then st.ctl.reasons else st.ctl.reasons ||| HoldReason.amp.bit := by
  unfold holdJudged
  split
  · rfl
  · exact takeReason_reasons runGroup ..

/-- The fourth check leaves the reasons taken before it. -/
theorem Station.judged_keeps (runGroup : st.ctl.mode.inRunGroup = true) (error : Int) (count : Nat) {n : Nat}
    (held : st.ctl.reasons.getLsbD n = true) :
    (if error.natAbs ≤ cfg.trackingLimit.toNat then st.tracked error 0
      else if count + 1 < cfg.trackingCount.toNat then st.tracked error (count + 1)
      else (st.tracked error 0).takeReason cfg .track (own cfg)).ctl.reasons.getLsbD n = true := by
  split_ifs
  · exact held
  · exact held
  · exact takeReason_keeps (st := st.tracked error 0) runGroup _ _ held

theorem Station.tracked_reasons (runGroup : st.ctl.mode.inRunGroup = true) (error : Int) :
    ((st.tracked error 0).takeReason cfg .track (own cfg)).ctl.reasons.getLsbD 4 = true := by
  rw [takeReason_reasons (st := st.tracked error 0) runGroup, BitVec.getLsbD_or,
    show HoldReason.track.bit.getLsbD 4 = true from rfl, Bool.or_true]

/-- A feedback judged in the run group, whose status is not in the trip mask. -/
theorem Station.supervise_runGroup (clear : status &&& cfg.tripMask = 0#8) (runGroup : st.ctl.mode.inRunGroup = true) :
    let error := answered - (if cfg.role = 1#8 then displacement else force)
    let judged := (st.holdJudged cfg status).windowJudged cfg (windowOf cfg.forceMin.toInt cfg.forceMax.toInt force)
      (windowOf cfg.dispMin.toInt cfg.dispMax.toInt displacement)
    st.supervise cfg force displacement status answered =
      if error.natAbs ≤ cfg.trackingLimit.toNat then judged.tracked error 0
      else if st.sup.trackCount + 1 < cfg.trackingCount.toNat then judged.tracked error (st.sup.trackCount + 1)
      else (judged.tracked error 0).takeReason cfg .track (own cfg) := by
  have held := holdJudged_runGroup (st := st) (cfg := cfg) (status := status) |>.trans runGroup
  have windowed := (windowJudged_runGroup (st := st.holdJudged cfg status) (cfg := cfg)
    (forceAt := windowOf cfg.forceMin.toInt cfg.forceMax.toInt force)
    (dispAt := windowOf cfg.dispMin.toInt cfg.dispMax.toInt displacement)).trans held
  rw [supervise, tripMaskCheck_clear clear, holdMaskCheck_runGroup runGroup, windowCheck_runGroup held,
    trackCheck_runGroup windowed, windowJudged_trackCount, holdJudged_sup]

end

end

theorem Mode.outside_of_noPermit {m : Mode} (noPermit : m.isPermit = false) : m.inRunGroup = false := by
  cases m <;> first | rfl | cases noPermit

/-- Settles O36: the check, the attribution, and the four checks of a feedback. -/
theorem feedbackIsJudged : Obligations.FeedbackIsJudged := by
  unfold Obligations.FeedbackIsJudged
  refine ⟨fun bits => rfl, fun st cfg bits => ⟨rfl, fun invalid => ?_, fun valid => ?_⟩, ?_⟩
  · simp [Station.takeResponse, invalid, Station.countSideLoss]
  · simp only [Station.takeResponse, valid, if_true]
    exact ⟨rfl, rfl⟩
  intro st cfg bits answered known valid
  have judged := Station.takeResponse_command (cfg := cfg) valid known
  dsimp only
  rw [judged]
  refine ⟨fun tripping => ⟨fun permit => ?_, fun idle => ?_, fun noPermit notIdle => ?_⟩, fun clear outside => ?_,
    fun clear runGroup => ?_⟩
  · rw [Station.supervise_trips (st := st.feedbackKept cfg bits) tripping permit]
    exact ⟨rfl, Station.takeTrip_tripped
      (st := { st.feedbackKept cfg bits with sup := { st.sup with trippingStatus := some (bits.extractLsb' 8 8) } }) permit ..⟩
  · exact Station.supervise_idle (st := st.feedbackKept cfg bits) tripping idle
  · refine Station.supervise_outside (st := st.feedbackKept cfg bits) ?_ (Mode.outside_of_noPermit noPermit)
    simp [Station.tripMaskCheck, Station.feedbackKept, noPermit, notIdle]
  · exact Station.supervise_outside (st := st.feedbackKept cfg bits) (Station.tripMaskCheck_clear clear) outside
  · have whole := Station.supervise_runGroup (st := st.feedbackKept cfg bits) (cfg := cfg) (force := (bits.extractLsb' 32 16).toInt)
      (displacement := (bits.extractLsb' 16 16).toInt) (answered := answered) clear runGroup
    have held : ((st.feedbackKept cfg bits).holdJudged cfg (bits.extractLsb' 8 8)).ctl.mode.inRunGroup = true :=
      Station.holdJudged_runGroup.trans runGroup
    have ampHeld := Station.holdJudged_reasons (cfg := cfg) (status := bits.extractLsb' 8 8) (st := st.feedbackKept cfg bits) runGroup
    have windowHeld := Station.windowJudged_reasons (cfg := cfg) held
      (windowOf cfg.forceMin.toInt cfg.forceMax.toInt (bits.extractLsb' 32 16).toInt)
      (windowOf cfg.dispMin.toInt cfg.dispMax.toInt (bits.extractLsb' 16 16).toInt)
    have runs := (Station.windowJudged_runGroup (cfg := cfg)
      (forceAt := windowOf cfg.forceMin.toInt cfg.forceMax.toInt (bits.extractLsb' 32 16).toInt)
      (dispAt := windowOf cfg.dispMin.toInt cfg.dispMax.toInt (bits.extractLsb' 16 16).toInt)).trans held
    dsimp only at whole
    rw [whole]
    have keeps (n : Nat) := Station.judged_keeps (cfg := cfg) runs
      (answered - (if cfg.role = 1#8 then (bits.extractLsb' 16 16).toInt else (bits.extractLsb' 32 16).toInt))
      st.sup.trackCount (n := n)
    refine ⟨fun near => ?_, fun far below => ?_, fun far reached => ⟨?_, ?_⟩, fun amp => ?_, fun window => ?_,
      fun noAmp forceIn dispIn near => ?_⟩
    · exact if_pos near
    · exact (if_neg (Nat.not_le.mpr far)).trans (if_pos below)
    · exact (if_neg (Nat.not_le.mpr far)).trans (if_neg (Nat.not_lt.mpr reached))
    · have notBelow : ¬ (st.feedbackKept cfg bits).sup.trackCount + 1 < cfg.trackingCount.toNat := Nat.not_lt.mpr reached
      rw [if_neg (Nat.not_le.mpr far), if_neg notBelow]
      exact Station.tracked_reasons runs _
    · refine keeps 5 ?_
      rw [windowHeld, ampHeld, if_neg amp]
      have bit : HoldReason.amp.bit.getLsbD 5 = true := rfl
      split <;> simp [bit]
    · refine keeps 3 ?_
      rw [windowHeld, if_neg (not_and_or.mpr window), BitVec.getLsbD_or, show HoldReason.window.bit.getLsbD 3 = true from rfl,
        Bool.or_true]
    · rw [if_pos near, Station.windowJudged, if_pos ⟨forceIn, dispIn⟩, Station.holdJudged, if_pos noAmp]
      exact ⟨rfl, rfl, rfl⟩

/-! ### The slots and the stages -/

section
variable {st : Station} {cfg : ConfigRecord}

theorem DriveLine.slotASends_iff (d : DriveLine) (cfg : ConfigRecord) (c : Int) (n : Nat) : d.slotASends cfg c n = true ↔
    d.lastSent ≠ some c ∨ n = cfg.refreshInterval.toNat ∨ d.previousKind = .side ∨ d.previousKind = .auto := by
  simp [slotASends, or_assoc]

/-- Slot A makes a transfer: its response is attributed, and the command sent is then the answered one (R142). -/
theorem Station.slotA_sends {c : Int} (sends : st.drive.slotASends cfg c (st.drive.refresh.getD 0 + 1) = true) (bits : BitVec 48) :
    let answeredA := ({ st with drive := { st.drive with
      refresh := some 0, lastSent := some c, previousKind := .command, outA := some (commandDatagram c) } } :
        Station).takeResponse cfg st.drive.previousKind bits
    st.slotA cfg c bits = { answeredA with drive := { answeredA.drive with answered := some c } } := if_pos sends

/-- Slot B sends the AUTO word first (R144). -/
theorem Station.slotB_auto {word : BitVec 32} (auto : st.drive.autoSlot = some word) (bits : BitVec 48) :
    st.slotB cfg bits = ({ st with drive := { st.drive with
      autoSlot := none, previousKind := .auto, outB := some { isCommand := false, word := word } } } : Station).takeResponse
        cfg st.drive.previousKind bits := by
  simp only [slotB, auto, sideDatagram]

/-- Slot B sends the oldest side word with no AUTO word (R144). -/
theorem Station.slotB_side {word : BitVec 32} {rest : List (BitVec 32)} (noAuto : st.drive.autoSlot = none)
    (queue : st.drive.sideQueue = word :: rest) (bits : BitVec 48) :
    st.slotB cfg bits = ({ st with drive := { st.drive with
      sideQueue := rest, previousKind := .side, outB := some { isCommand := false, word := word } } } : Station).takeResponse
        cfg st.drive.previousKind bits := by
  simp only [slotB, noAuto, queue, sideDatagram]

/-- No change of state that the update before reported is still to be taken (R39, R78). -/
def Station.Unreported (st : Station) : Prop :=
  st.engine.fadeEnd = none ∧ ¬ (st.ctl.mode = .countdown ∧ st.ctl.countdown = some 0)

theorem Station.takeReported_unreported (h : st.Unreported) : st.takeReported cfg = st := by
  obtain ⟨fadeEnd, countdown⟩ := h
  rw [takeReported, expireCountdown, if_neg countdown, endRampIn, if_neg (by simp [fadeEnd]), endRampOut, if_neg (by simp [fadeEnd])]

theorem Station.takeDueBeat_none (none' : st.peers.beatDue = false) : st.takeDueBeat cfg = st := by simp [takeDueBeat, none']

/-- An update with nothing to take before it begins with the Peer Table's tick (R39, R103). -/
theorem exec_update_plain {s : State} (runs : s.station.RunsIn cfg) (unreported : s.station.Unreported)
    (noBeat : s.station.peers.beatDue = false) (inA inB : BitVec 48) : exec (.update inA inB) s = .next (s.withStation
      ((((((s.station.tickPeers cfg).countDown).replayUpdate cfg).driveUpdate cfg inA inB).partialTick).reportTick)) := by
  rw [exec_update_configured runs, Station.blocksUpdate, Station.takeReported_unreported unreported, Station.takeDueBeat_none noBeat]

/-- The band after an offer (R150). -/
theorem Station.evaluateBand_rises {o : Offer} (enabled : cfg.gainEnable = 1#8) (low : st.drive.band = some .low)
    (reaches : cfg.threshold.toNat ≤ (o.command - o.previous).natAbs) :
    st.evaluateBand cfg o = st.setBand .high cfg.highWord := by
  simp [evaluateBand, gainEnabled, enabled, low, reaches]

theorem Station.evaluateBand_falls {o : Offer} (enabled : cfg.gainEnable = 1#8) (high : st.drive.band = some .high)
    (below : (o.command - o.previous).natAbs + cfg.hysteresis.toNat < cfg.threshold.toNat) :
    st.evaluateBand cfg o = st.setBand .low cfg.lowWord := by
  have under : (o.command - o.previous).natAbs < cfg.threshold.toNat - cfg.hysteresis.toNat := by omega
  simp [evaluateBand, gainEnabled, enabled, high, under]

theorem Station.evaluateBand_stands {o : Offer}
    (noRise : ¬ (cfg.gainEnable = 1#8 ∧ st.drive.band = some .low ∧ cfg.threshold.toNat ≤ (o.command - o.previous).natAbs))
    (noFall : ¬ (cfg.gainEnable = 1#8 ∧ st.drive.band = some .high ∧
      (o.command - o.previous).natAbs + cfg.hysteresis.toNat < cfg.threshold.toNat)) : st.evaluateBand cfg o = st := by
  by_cases enabled : cfg.gainEnable = 1#8
  · cases band : st.drive.band with
    | none => simp [evaluateBand, gainEnabled, band]
    | some b =>
      cases b with
      | low => simp [evaluateBand, gainEnabled, band, mt (fun reaches => ⟨enabled, band, reaches⟩) noRise]
      | high =>
        have above : ¬ (o.command - o.previous).natAbs < cfg.threshold.toNat - cfg.hysteresis.toNat :=
          fun below => noFall ⟨enabled, band, by omega⟩
        simp [evaluateBand, gainEnabled, band, above]
  · simp [evaluateBand, gainEnabled, enabled]

/-- The stages after the band (R140, R152). -/
theorem Station.driveUpdate_offer {o : Offer} (offered : st.engine.offered = some o) (inA inB : BitVec 48) :
    st.driveUpdate cfg inA inB =
      (((st.countSilence.evaluateBand cfg o).slotA cfg o.command inA).slotB cfg inB).checkSilence cfg := by
  simp only [driveUpdate, offered]

end

/-- Settles O35: the two slots, the stages at an offer, and their place in the update. -/
theorem driveSlotsSend : Obligations.DriveSlotsSend := by
  unfold Obligations.DriveSlotsSend
  refine ⟨fun c => rfl, fun st cfg c bits => ?slots, fun st cfg inA inB => ⟨fun noOffer => ?_, fun o offered => ?stages⟩,
    fun s cfg inA inB runs fadeEnd noBeat countdown => exec_update_plain runs ⟨fadeEnd, countdown⟩ noBeat inA inB⟩
  case slots =>
    dsimp only
    have sendsIff := DriveLine.slotASends_iff st.drive cfg c (st.drive.refresh.getD 0 + 1)
    refine ⟨fun sends => ?_, fun silent => ?_, fun word auto => ?_, fun word rest noAuto queue => ?_, fun noAuto empty => ?_⟩
    · obtain ⟨lastSent, refresh, previous, -, queue, auto, -, outA, -⟩ := ({ st with drive := { st.drive with
        refresh := some 0, lastSent := some c, previousKind := .command, outA := some (commandDatagram c) } } :
          Station).takeResponse_drive cfg st.drive.previousKind bits
      rw [Station.slotA_sends (sendsIff.mpr sends)]
      exact ⟨rfl, outA, refresh, lastSent, previous, rfl, queue, auto⟩
    · simp only [Station.slotA, if_neg (sendsIff.not.mpr silent)]
    · obtain ⟨-, -, previous, -, queue, autoSlot, -, -, outB⟩ := ({ st with drive := { st.drive with
        autoSlot := none, previousKind := .auto, outB := some (sideDatagram word) } } : Station).takeResponse_drive cfg
          st.drive.previousKind bits
      rw [Station.slotB_auto auto]
      exact ⟨rfl, outB, autoSlot, previous, queue⟩
    · obtain ⟨-, -, previous, -, left, -, -, -, outB⟩ := ({ st with drive := { st.drive with
        sideQueue := rest, previousKind := .side, outB := some (sideDatagram word) } } : Station).takeResponse_drive cfg
          st.drive.previousKind bits
      rw [Station.slotB_side noAuto queue]
      exact ⟨rfl, outB, left, previous⟩
    · simp only [Station.slotB, noAuto, empty]
  · simp only [Station.driveUpdate, noOffer]
  case stages =>
    rw [Station.driveUpdate_offer offered]
    refine ⟨fun rises => ?_, fun falls => ?_, fun noRise noFall => ?_⟩
    · rw [Station.evaluateBand_rises (st := st.countSilence) rises.1 rises.2.1 rises.2.2]
      rfl
    · rw [Station.evaluateBand_falls (st := st.countSilence) falls.1 falls.2.1 falls.2.2]
      rfl
    · rw [Station.evaluateBand_stands (st := st.countSilence) noRise noFall]
      rfl

end Sys2Proof.Machine
end
section
/-! WHAT JUDGING CAN CHANGE. The checks of a beat instant, the stages of the drive line and the supervision of a feedback are
chains of a few changes only: a result kept, an event raised other than CLAMP and RATE, an increment written, a hold reason or a
trip cause taken. What each of these leaves, the update and the beat instant leave. -/

namespace Sys2Proof.Machine

/-- Whether an event is latched (R181). -/
def Station.isLatched (st : Station) (e : Event) : Bool := st.events.latched.getLsbD e.code

/-- One change of a station by a check or by a stage of the drive line. -/
inductive Judgement (cfg : ConfigRecord) (st : Station) : Station → Prop where
  /-- An event is raised, neither CLAMP nor RATE. -/
  | raise (e : Event) (quiet : e ≠ .clamp ∧ e ≠ .rate := by decide) : Judgement cfg st (st.raise e)
  /-- The Peer Table keeps a result. -/
  | peersAside (p : PeerTable) (entries : p.entries = st.peers.entries := by rfl)
      (counter : p.beatCounter = st.peers.beatCounter := by rfl) (tickTaken : p.tickTaken = st.peers.tickTaken := by rfl)
      (beatDue : p.beatDue = st.peers.beatDue := by rfl) : Judgement cfg st { st with peers := p }
  /-- The Supervision Unit keeps a result. -/
  | supAside (u : Supervision) : Judgement cfg st { st with sup := u }
  /-- The drive line changes. -/
  | driveAside (d : DriveLine) : Judgement cfg st { st with drive := d }
  /-- The BEAT slot is filled. -/
  | refillBeat : Judgement cfg st st.refillBeat
  /-- The increment is written. -/
  | increment (n : Nat) : Judgement cfg st (st.setIncrement n)
  /-- A hold reason is taken. -/
  | takeReason (r : HoldReason) (k : StationNo) : Judgement cfg st (st.takeReason cfg r k)
  /-- A trip cause is taken. -/
  | takeTrip (cause : TripCause) (k : StationNo) : Judgement cfg st (st.takeTrip cfg cause k)

/-- A chain of judgements. -/
abbrev Judgements (cfg : ConfigRecord) : Station → Station → Prop := Relation.ReflTransGen (Judgement cfg)

section
variable {cfg : ConfigRecord} {a b c st : Station}

theorem Judgement.chain (h : Judgement cfg a b) : Judgements cfg a b := .single h

theorem Judgements.ite {p : Prop} [Decidable p] (hb : p → Judgements cfg a b) (hc : ¬ p → Judgements cfg a c) :
    Judgements cfg a (if p then b else c) := by
  split
  · exact hb ‹_›
  · exact hc ‹_›

end

section
variable (st : Station) (cfg : ConfigRecord)

/-! ### The checks of a beat instant -/

theorem Station.consistencyCheck_judged : Judgements cfg st (st.consistencyCheck cfg) := by
  have peerTrip (o : Option StationNo) : Judgements cfg st (match o with
      | none => st
      | some k => st.takeTrip cfg .peerTrip k) := by
    cases o with
    | none => exact .refl
    | some k => exact (Judgement.takeTrip _ k).chain
  unfold Station.consistencyCheck
  exact .ite (fun _ => .ite (fun _ => (peerTrip _).tail (.takeReason _ _)) fun _ => peerTrip _) fun _ => .refl

theorem Station.trimPart_judged : Judgements cfg st (st.trimPart cfg) := by
  have trimmed (x : TrimResult) (n : Nat) : Judgements cfg st
      (({ st with peers := { st.peers with lastTrim := some x } } : Station).setIncrement n) :=
    (Judgement.peersAside { st.peers with lastTrim := some x }).chain.tail (.increment n)
  unfold Station.trimPart
  refine .ite (fun _ => ?_) fun _ => (Judgement.increment _).chain
  split
  · unfold Station.makeTrim
    exact .ite (fun _ => (trimmed _ _).tail (.takeReason _ _)) fun _ => trimmed _ _
  · exact .refl

theorem Station.groupCheck_judged : Judgements cfg st (st.groupCheck cfg) := by
  have summed : Judgements cfg st { st with peers := { st.peers with groupSum := some (st.groupTotal cfg) } } :=
    (Judgement.peersAside _).chain
  unfold Station.groupCheck
  exact .ite (fun _ => .ite (fun _ => summed.tail (.takeReason _ _)) fun _ => summed) fun _ => .refl

/-- The work of a beat instant, once the mark that calls for it is cleared (R105). -/
theorem Station.beatWork_judged : Judgements cfg { st with peers := { st.peers with beatDue := false } } (st.beatWork cfg) :=
  (((consistencyCheck_judged _ cfg).trans (trimPart_judged _ cfg)).trans (groupCheck_judged _ cfg)).tail .refillBeat

/-! ### The stages of the drive line -/

theorem Station.supervise_judged (force displacement : Int) (status : AmpStatus) (answered : Int) :
    Judgements cfg st (st.supervise cfg force displacement status answered) := by
  have mask (x : Station) : Judgements cfg x (x.tripMaskCheck cfg status) :=
    .ite (fun _ => .ite (fun _ => ((Judgement.supAside _).chain).tail (.takeTrip _ _))
      fun _ => .ite (fun _ => (Judgement.raise .trip).chain) fun _ => .refl) fun _ => .refl
  have hold (x : Station) : Judgements cfg x (x.holdMaskCheck cfg status) :=
    .ite (fun _ => (Judgement.takeReason _ _).chain) fun _ => .refl
  have window (x : Station) : Judgements cfg x (x.windowCheck cfg force displacement) := by
    unfold Station.windowCheck
    exact .ite (fun _ => .ite (fun _ => ((Judgement.supAside _).chain).tail (.takeReason _ _))
      fun _ => (Judgement.supAside _).chain) fun _ => (Judgement.supAside _).chain
  have track (x : Station) : Judgements cfg x (x.trackCheck cfg answered force displacement) := by
    have kept (u : Supervision) : Judgements cfg x { x with sup := u } := (Judgement.supAside _).chain
    unfold Station.trackCheck
    exact .ite (fun _ => .ite (fun _ => .ite (fun _ => (kept _).tail (.takeReason _ _)) fun _ => kept _) fun _ => kept _)
      fun _ => kept _
  exact (((mask _).trans (hold _)).trans (window _)).trans (track _)

theorem Station.takeResponse_judged (kind : TransferKind) (bits : BitVec 48) :
    Judgements cfg st (st.takeResponse cfg kind bits) := by
  have heard : Judgements cfg st st.heard := (Judgement.driveAside _).chain
  cases kind with
  | none => exact .refl
  | command =>
    exact .ite (fun _ => ((heard.tail (.driveAside _)).tail (.peersAside _)).trans (supervise_judged _ cfg _ _ _ _)) fun _ => .refl
  | side => exact .ite (fun _ => (heard.tail (.driveAside _)).tail (.raise .sideDone)) fun _ => (Judgement.driveAside _).chain
  | auto => exact .ite (fun _ => heard) fun _ => .refl

theorem Station.slotA_judged (c : Int) (bits : BitVec 48) : Judgements cfg st (st.slotA cfg c bits) :=
  .ite (fun _ => (((Judgement.driveAside _).chain).trans (takeResponse_judged _ cfg _ bits)).tail (.driveAside _))
    fun _ => (Judgement.driveAside _).chain

theorem Station.slotB_judged (bits : BitVec 48) : Judgements cfg st (st.slotB cfg bits) := by
  unfold Station.slotB
  simp only
  split
  · exact ((Judgement.driveAside _).chain).trans (takeResponse_judged _ cfg _ bits)
  · exact ((Judgement.driveAside _).chain).trans (takeResponse_judged _ cfg _ bits)
  · exact (Judgement.driveAside _).chain

theorem Station.evaluateBand_judged (o : Offer) : Judgements cfg st (st.evaluateBand cfg o) := by
  have set (band : Band) (word : BitVec 32) : Judgements cfg st (st.setBand band word) := (Judgement.driveAside _).chain
  unfold Station.evaluateBand
  refine .ite (fun _ => ?_) fun _ => .refl
  split
  · exact .ite (fun _ => set _ _) fun _ => .refl
  · exact .ite (fun _ => set _ _) fun _ => .refl
  · exact .refl

theorem Station.driveUpdate_judged (inA inB : BitVec 48) : Judgements cfg st (st.driveUpdate cfg inA inB) := by
  unfold Station.driveUpdate
  split
  · exact .refl
  · have silence (x : Station) : Judgements cfg x (x.checkSilence cfg) :=
      .ite (fun _ => ((Judgement.raise .driveSilent).chain).tail (.takeTrip _ _)) fun _ => .refl
    exact (((((Judgement.driveAside _).chain).trans (evaluateBand_judged _ cfg _)).trans (slotA_judged _ cfg _ inA)).trans
      (slotB_judged _ cfg inB)).trans (silence _)

end

/-! ### What a chain of judgements leaves -/

theorem Event.code_inj {e e' : Event} : e.code = e'.code ↔ e = e' := by
  cases e <;> cases e' <;> simp [Event.code]

section
variable {cfg : ConfigRecord} {a b c st : Station}

theorem EventSet.raise_getLsbD (ev : EventSet) (e e' : Event) :
    (ev.raise e).latched.getLsbD e'.code = (ev.latched.getLsbD e'.code || decide (e' = e)) := by
  have within : e'.code < 15 := by cases e' <;> decide
  by_cases same : e' = e
  · subst same
    simp [Event.bit, within]
  · have apart : e'.code ≠ e.code := mt Event.code_inj.mp same
    simp only [raise_latched, Event.bit, BitVec.getLsbD_or, same, decide_false, Bool.or_false, BitVec.getLsbD_shiftLeft,
      BitVec.getLsbD_one]
    rcases Nat.lt_or_gt_of_ne apart with below | above
    · simp [below]
    · simp [show e'.code - e.code ≠ 0 by omega]

/-- The Peer Table's entries, its counter and its marks stand, and no latched event is lost. -/
structure Station.SameTable (a b : Station) : Prop where
  entries : b.peers.entries = a.peers.entries
  counter : b.peers.beatCounter = a.peers.beatCounter
  tickTaken : b.peers.tickTaken = a.peers.tickTaken
  beatDue : b.peers.beatDue = a.peers.beatDue
  grows : ∀ e, a.isLatched e = true → b.isLatched e = true

/-- Beside that, CLAMP and RATE stand. -/
structure Station.Beside (a b : Station) : Prop extends Station.SameTable a b where
  quiet : ∀ e, e = .clamp ∨ e = .rate → b.isLatched e = a.isLatched e

theorem Station.SameTable.trans (h : a.SameTable b) (h' : b.SameTable c) : a.SameTable c :=
  ⟨h'.entries.trans h.entries, h'.counter.trans h.counter, h'.tickTaken.trans h.tickTaken, h'.beatDue.trans h.beatDue,
    fun e latched => h'.grows e (h.grows e latched)⟩

theorem Station.Beside.refl (a : Station) : a.Beside a := ⟨⟨rfl, rfl, rfl, rfl, fun _ => id⟩, fun _ _ => rfl⟩

theorem Station.Beside.trans (h : a.Beside b) (h' : b.Beside c) : a.Beside c :=
  ⟨h.toSameTable.trans h'.toSameTable, fun e he => (h'.quiet e he).trans (h.quiet e he)⟩

/-- With the Peer Table as it was, what matters to it is that no event is lost. -/
theorem Station.sameTable_of_peers (peers : b.peers = a.peers) (grows : ∀ e, a.isLatched e = true → b.isLatched e = true) :
    a.SameTable b := ⟨by rw [peers], by rw [peers], by rw [peers], by rw [peers], grows⟩

theorem Station.isLatched_raise (st : Station) (e e' : Event) :
    (st.raise e).isLatched e' = (st.isLatched e' || decide (e' = e)) := EventSet.raise_getLsbD ..

/-- With the Peer Table as it was, what matters is the events. -/
theorem Station.beside_of_events (peers : b.peers = a.peers) (events : b.events = a.events) : a.Beside b := by
  refine ⟨sameTable_of_peers peers fun e => ?_, fun e _ => ?_⟩ <;> rw [isLatched, isLatched, events]
  exact id

theorem Station.beside_raise {e : Event} (quiet : e ≠ .clamp ∧ e ≠ .rate) (peers : b.peers = a.peers)
    (events : b.events = a.events.raise e) : a.Beside b := by
  refine ⟨sameTable_of_peers peers fun e' held => ?_, fun e' he' => ?_⟩ <;>
    rw [isLatched, events, EventSet.raise_getLsbD]
  · exact Bool.or_eq_true_iff.mpr (.inl held)
  · have apart : e' ≠ e := by
      rcases he' with rfl | rfl
      · exact quiet.1.symm
      · exact quiet.2.symm
    simp [apart, isLatched]

theorem Station.raise_beside {e : Event} (quiet : e ≠ .clamp ∧ e ≠ .rate) : st.Beside (st.raise e) :=
  beside_raise quiet rfl rfl

theorem Station.enterMode_beside (m : Mode) : st.Beside (st.enterMode cfg m) :=
  beside_raise (e := .state) (by decide) (enterMode_peers ..) (enterMode_events ..)

theorem Station.startHold_beside (r : HoldReason) (k : StationNo) : st.Beside (st.startHold r k) := by
  refine beside_raise (e := .hold) (by decide) ?_ ?_ <;> unfold startHold <;> simp only <;> split <;> rfl

theorem Station.takeReason_beside (r : HoldReason) (k : StationNo) : st.Beside (st.takeReason cfg r k) := by
  have started (m : Mode) : st.Beside (((st.insertReason r).enterMode cfg m).startHold r k) :=
    ((beside_of_events (a := st) (b := st.insertReason r) rfl rfl).trans (enterMode_beside m)).trans (startHold_beside r k)
  unfold takeReason
  cases st.ctl.mode with
  | rampIn | playing | countdown => exact started _
  | rampOutMoving | rampOutParked | held | ending | complete => exact beside_of_events rfl rfl
  | unconfigured | idle | armed | tripped => exact .refl _

theorem Station.takeTrip_beside (cause : TripCause) (k : StationNo) : st.Beside (st.takeTrip cfg cause k) := by
  unfold takeTrip
  split
  · have entered (x : Station) (peers : x.peers = st.peers) (events : x.events = st.events) :
        st.Beside (x.enterMode cfg .tripped) := (beside_of_events peers events).trans (enterMode_beside _)
    simp only
    refine Beside.trans ?_ (raise_beside (by decide))
    split
    · exact entered _ rfl rfl
    · exact (entered _ rfl rfl).trans (beside_of_events rfl rfl)
  · exact .refl _

theorem Judgement.beside (h : Judgement cfg a b) : a.Beside b := by
  cases h with
  | raise e quiet => exact Station.raise_beside quiet
  | peersAside p entries counter tickTaken beatDue => exact ⟨⟨entries, counter, tickTaken, beatDue, fun _ => id⟩, fun _ _ => rfl⟩
  | supAside | driveAside | refillBeat | increment => exact Station.beside_of_events rfl rfl
  | takeReason r k => exact Station.takeReason_beside r k
  | takeTrip cause k => exact Station.takeTrip_beside cause k

theorem Judgements.beside (h : Judgements cfg a b) : a.Beside b := by
  induction h with
  | refl => exact .refl a
  | tail _ last ih => exact ih.trans last.beside

/-- The supply, RESET, the configuration, the store, the segments, the schedule and the position stand. -/
structure Station.SameGround (a b : Station) : Prop where
  power : b.power = a.power
  resetLine : b.resetLine = a.resetLine
  config : b.config = a.config
  store : b.store = a.store
  segments : b.segments = a.segments
  cutLoadings : b.cutLoadings = a.cutLoadings
  schedule : b.schedule = a.schedule
  position : b.engine.position = a.engine.position

theorem Station.SameGround.trans (h : a.SameGround b) (h' : b.SameGround c) : a.SameGround c :=
  ⟨h'.power.trans h.power, h'.resetLine.trans h.resetLine, h'.config.trans h.config, h'.store.trans h.store,
    h'.segments.trans h.segments, h'.cutLoadings.trans h.cutLoadings, h'.schedule.trans h.schedule, h'.position.trans h.position⟩

theorem Station.sameGround_of_rest (rest : b.SameRest a) (schedule : b.schedule = a.schedule)
    (position : b.engine.position = a.engine.position) : a.SameGround b := by
  obtain ⟨power, resetLine, -, -, config, store, segments, cutLoadings, -, -⟩ := rest
  exact ⟨power, resetLine, config, store, segments, cutLoadings, schedule, position⟩

theorem Station.SameGround.runs {cfg : ConfigRecord} (h : a.SameGround b) (runs : a.RunsIn cfg) : b.RunsIn cfg :=
  ⟨by rw [running, h.power, h.resetLine]; exact runs.1, h.config.trans runs.2⟩

theorem Judgement.sameGround (h : Judgement cfg a b) : a.SameGround b := by
  cases h with
  | takeReason r k =>
    obtain ⟨-, -, schedule, position⟩ := Station.takeReason_kept a cfg r k
    exact Station.sameGround_of_rest (Station.takeReason_same ..) schedule position
  | takeTrip cause k =>
    obtain ⟨-, -, schedule, -, -, position⟩ := Station.takeTrip_kept a cfg cause k
    exact Station.sameGround_of_rest (Station.takeTrip_same ..) schedule position
  | _ => exact ⟨rfl, rfl, rfl, rfl, rfl, rfl, rfl, rfl⟩

theorem Judgements.sameGround (h : Judgements cfg a b) : a.SameGround b := by
  induction h with
  | refl => exact ⟨rfl, rfl, rfl, rfl, rfl, rfl, rfl, rfl⟩
  | tail _ last ih => exact ih.trans last.sameGround

/-- A change of state that a judgement brings is into RAMP-OUT, HELD or TRIPPED, with no end of a fade reported. -/
theorem Judgement.unreported (h : Judgement cfg a b) (before : a.Unreported) : b.Unreported := by
  obtain ⟨fadeEnd, countdown⟩ := id before
  cases h with
  | takeReason r k =>
    have started (m : Mode) (other : m ≠ .countdown) : (((a.insertReason r).enterMode cfg m).startHold r k).Unreported := by
      refine ⟨?_, fun ⟨mode, _⟩ => other ?_⟩
      · rw [Station.startHold_engine, Station.enterMode_fadeEnd]
      · rwa [Station.startHold_mode, Station.enterMode_mode] at mode
    unfold Station.takeReason
    cases mode : a.ctl.mode with
    | rampIn | playing => exact started _ (by split <;> decide)
    | countdown => exact started _ (by decide)
    | rampOutMoving | rampOutParked | held | ending | complete => exact before
    | unconfigured | idle | armed | tripped => exact before
  | takeTrip cause k =>
    by_cases permit : a.ctl.mode.isPermit = true
    · refine ⟨?_, by simp [Station.takeTrip_tripped permit]⟩
      simp only [Station.takeTrip, permit, if_true]
      split <;> simp [Station.placeTrip]
    · rwa [Station.takeTrip_noPermit (by simpa using permit)]
  | _ => exact before

theorem Judgements.unreported (h : Judgements cfg a b) (before : a.Unreported) : b.Unreported := by
  induction h with
  | refl => exact before
  | tail _ last ih => exact last.unreported ih

end

end Sys2Proof.Machine
end
section
/-! THE REPORTS OF AN UPDATE AND THE BEAT INSTANT (R39, R49, R50, R78, R100, R103, R105). -/

namespace Sys2Proof.Machine

section
variable {st : Station} {cfg : ConfigRecord}

/-! ### The reports -/

/-- A command that finds the station configured. -/
theorem State.act_configured {s : State} (runs : s.station.RunsIn cfg) (f : ConfigRecord → Station → Station) :
    s.act (fun st => st.whenConfigured f) = .next (s.withStation (f cfg s.station)) := by
  simp only [State.act, Station.whenConfigured_runs runs]
  rfl

/-- Two states whose updates begin alike update alike (R39). -/
theorem exec_update_of_begins {s t : State} (runs : s.station.RunsIn cfg) (runs' : t.station.RunsIn cfg)
    (pending : t.pending = s.pending)
    (begins : (s.station.takeReported cfg).takeDueBeat cfg = (t.station.takeReported cfg).takeDueBeat cfg) (inA inB : BitVec 48) :
    exec (.update inA inB) s = exec (.update inA inB) t := by
  rw [exec_update_configured runs, exec_update_configured runs', Station.blocksUpdate, Station.blocksUpdate, begins]
  unfold State.withStation
  rw [pending]

/-- A state entered in which nothing is reported is the begin of its update (R39). -/
theorem exec_update_enters {s : State} (runs : s.station.RunsIn cfg) {m : Mode} (other : m ≠ .countdown)
    (reported : s.station.takeReported cfg = s.station.enterMode cfg m) (inA inB : BitVec 48) :
    exec (.update inA inB) s = exec (.update inA inB) (s.withStation (s.station.enterMode cfg m)) := by
  have stays : (s.station.enterMode cfg m).takeReported cfg = s.station.enterMode cfg m :=
    Station.takeReported_unreported ⟨Station.enterMode_fadeEnd .., by simp [other]⟩
  have same : s.station.SameGround (s.station.enterMode cfg m) :=
    Station.sameGround_of_rest (Station.enterMode_same ..) (Station.enterMode_schedule ..) (Station.enterMode_position ..)
  have entered : (s.withStation (s.station.enterMode cfg m)).station.RunsIn cfg := same.runs runs
  refine exec_update_of_begins runs entered rfl ?_ inA inB
  rw [State.withStation_station, stays, reported]

theorem Station.takeReported_countdown (mode : st.ctl.mode = .countdown) (zero : st.ctl.countdown = some 0) :
    st.takeReported cfg = st.enterMode cfg .rampIn := by
  simp [takeReported, expireCountdown, mode, zero, endRampIn, endRampOut]

theorem Station.takeReported_rampIn (mode : st.ctl.mode = .rampIn) (reported : st.engine.fadeEnd = some .rampIn) :
    st.takeReported cfg = st.enterMode cfg .playing := by
  simp [takeReported, expireCountdown, mode, reported, endRampIn, endRampOut]

theorem Station.takeReported_rampOut (mode : st.ctl.mode = .rampOutMoving ∨ st.ctl.mode = .rampOutParked)
    (reported : st.engine.fadeEnd = some .rampOut) : st.takeReported cfg = st.enterMode cfg .held := by
  rcases mode with mode | mode <;> simp [takeReported, expireCountdown, mode, reported, endRampIn, endRampOut]

theorem Station.takeReported_ending (mode : st.ctl.mode = .ending) (reported : st.engine.fadeEnd = some .rampOut) :
    st.takeReported cfg = st.enterMode cfg .complete := by
  simp [takeReported, expireCountdown, mode, reported, endRampIn, endRampOut]

end

/-- Settles O37: each report by its row, and the update that begins with it. -/
theorem reportsAreTaken : Obligations.ReportsAreTaken := by
  unfold Obligations.ReportsAreTaken
  intro s cfg runs
  dsimp only
  refine ⟨fun runGroup reached => ?_, fun silent => ?_, fun mode zero => ⟨?_, fun inA inB => ?_⟩,
    fun mode reported => ⟨?_, fun inA inB => ?_⟩, fun mode reported => ⟨?_, fun inA inB => ?_⟩,
    fun mode reported => ⟨?_, fun inA inB => ?_⟩⟩
  · refine (State.act_configured runs _).trans ?_
    rw [if_pos (by simp [runGroup, reached])]
    rfl
  · refine (State.act_configured runs _).trans ?_
    rw [Station.checkSilence, silenceBound, if_pos silent]
    rfl
  · refine (State.act_configured runs _).trans ?_
    rw [Station.expireCountdown, if_pos ⟨mode, zero⟩, Station.enterMode_eq]
    rfl
  · refine (exec_update_enters runs (by decide) (Station.takeReported_countdown mode zero) inA inB).trans ?_
    rw [Station.enterMode_eq]
    rfl
  · refine (State.act_configured runs _).trans ?_
    rw [Station.endRampIn, if_pos ⟨reported, mode⟩, Station.enterMode_eq]
    rfl
  · refine (exec_update_enters runs (by decide) (Station.takeReported_rampIn mode reported) inA inB).trans ?_
    rw [Station.enterMode_eq]
    rfl
  · refine (State.act_configured runs _).trans ?_
    have entered : s.station.endRampOut cfg = s.station.enterMode cfg .held := by
      rcases mode with mode | mode <;> simp [Station.endRampOut, mode, reported]
    rw [entered, Station.enterMode_eq]
    rfl
  · refine (exec_update_enters runs (by decide) (Station.takeReported_rampOut mode reported) inA inB).trans ?_
    rw [Station.enterMode_eq]
    rfl
  · refine (State.act_configured runs _).trans ?_
    have entered : s.station.endRampOut cfg = s.station.enterMode cfg .complete := by simp [Station.endRampOut, mode, reported]
    rw [entered, Station.enterMode_eq]
    rfl
  · refine (exec_update_enters runs (by decide) (Station.takeReported_ending mode reported) inA inB).trans ?_
    rw [Station.enterMode_eq]
    rfl

/-! ### The beat instant -/

section
variable {st : Station} {cfg : ConfigRecord}

theorem Mode.still_of_outside {m : Mode} (outside : m.inRunGroup = false) : m.isMoving = false := by
  cases m <;> first | rfl | cases outside

/-- Outside the run group the work of a beat instant writes I = N and fills the BEAT slot (R105, R117). -/
theorem Station.beatWork_outside (outside : st.ctl.mode.inRunGroup = false) : st.beatWork cfg = { st with
    peers := { st.peers with beatDue := false }
    engine := { st.engine with regs := st.engine.regs.map fun x => { x with increment := nominal cfg } }
    link := { st.link with beatSlot := true } } := by
  simp [beatWork, consistencyCheck, trimPart, groupCheck, outside, Mode.still_of_outside outside, setIncrement, refillBeat]

/-- The work of a beat instant clears the mark that calls for it, and reports no change of state. -/
theorem Station.beatWork_beatDue : (st.beatWork cfg).peers.beatDue = false :=
  (Judgements.beside (beatWork_judged st cfg)).beatDue

theorem Station.Unreported.beatWork (h : st.Unreported) : (st.beatWork cfg).Unreported :=
  Judgements.unreported (beatWork_judged st cfg) h

theorem Station.beatWork_sameGround : st.SameGround (st.beatWork cfg) :=
  Station.SameGround.trans (b := { st with peers := { st.peers with beatDue := false } }) ⟨rfl, rfl, rfl, rfl, rfl, rfl, rfl, rfl⟩
    (Judgements.sameGround (beatWork_judged st cfg))

end

/-- Settles O39: the work, and the update that finds it still to be made. -/
theorem beatInstantWork : Obligations.BeatInstantWork := by
  unfold Obligations.BeatInstantWork
  refine ⟨fun s cfg runs due => ?_, fun s cfg runs notDue next => ?_⟩
  · have made : exec .beatInstant s = .next (s.withStation (s.station.beatWork cfg)) := by
      refine (State.act_configured runs _).trans ?_
      rw [if_pos due]
    dsimp only
    refine ⟨fun outside => ?_, fun _ => made, fun fadeEnd countdown => ?_⟩
    · rw [made, Station.beatWork_outside outside]
    · refine ⟨_, made, Station.beatWork_beatDue, fun inA inB => ?_⟩
      have unreported : s.station.Unreported := ⟨fadeEnd, countdown⟩
      have runs' : (s.withStation (s.station.beatWork cfg)).station.RunsIn cfg := Station.beatWork_sameGround.runs runs
      refine exec_update_of_begins runs runs' rfl ?_ inA inB
      rw [State.withStation_station, Station.takeReported_unreported unreported, Station.takeReported_unreported unreported.beatWork,
        Station.takeDueBeat_none Station.beatWork_beatDue, Station.takeDueBeat, if_pos due]
  · refine (State.act_configured runs _).trans ?_
    rw [if_neg (by simp [notDue]), if_pos next]

/-! ### The tick -/

section
variable {st : Station} {cfg : ConfigRecord}

/-- An entry that turns STALE at the tick makes it raise PEER-LOST (R100). -/
theorem Station.peerTick_lost {k : StationNo} {e : PeerEntry} (entry : st.peer k = some e)
    (stale : e.turnsStale (silenceLimit cfg) = true) :
    (st.peerTick cfg).events = st.events.raise .peerLost := by
  have lost : (st.peers.entries.any fun e => (e.map fun x => x.turnsStale (silenceLimit cfg)).getD false) = true := by
    rw [Vector.any_eq_true]
    exact ⟨k, k.isLt, by rw [show st.peers.entries[k.val] = some e from entry]; exact stale⟩
  simp only [peerTick, lost, if_true]
  rfl

theorem Station.peerTick_peers (st : Station) (cfg : ConfigRecord) : (st.peerTick cfg).peers = { st.peers with
    entries := st.peers.entries.map fun e => e.map fun x => x.aged (silenceLimit cfg)
    beatCounter := st.peers.beatCounter.map fun n => nextBeat n cfg.beatInterval.toNat
    beatDue := st.peers.beatDue || (st.peers.beatCounter.map fun n => nextBeat n cfg.beatInterval.toNat) == some 0 } := by
  unfold peerTick
  simp only
  split <;> rfl

theorem Station.peerTick_peer (st : Station) (cfg : ConfigRecord) (k : StationNo) :
    (st.peerTick cfg).peer k = (st.peer k).map fun x => x.aged (silenceLimit cfg) := by
  simp [peer, peerTick_peers]

/-- The tick raises PEER-LOST, or nothing (R100). -/
theorem Station.peerTick_events (st : Station) (cfg : ConfigRecord) :
    (st.peerTick cfg).events = st.events ∨ (st.peerTick cfg).events = st.events.raise .peerLost := by
  unfold peerTick
  simp only
  split
  · exact .inr rfl
  · exact .inl rfl

/-! ### The update beside the tick -/

theorem Station.takeReported_beside : st.Beside (st.takeReported cfg) := by
  have expire (x : Station) : x.Beside (x.expireCountdown cfg) := by
    unfold expireCountdown
    split
    · exact enterMode_beside _
    · exact .refl _
  have rampIn (x : Station) : x.Beside (x.endRampIn cfg) := by
    unfold endRampIn
    split
    · exact enterMode_beside _
    · exact .refl _
  have rampOut (x : Station) : x.Beside (x.endRampOut cfg) := by
    unfold endRampOut
    split
    · cases x.ctl.mode with
      | rampOutMoving | rampOutParked | ending => exact enterMode_beside _
      | unconfigured | idle | armed | countdown | rampIn | playing | held | complete | tripped => exact .refl _
    · exact .refl _
  exact ((expire _).trans (rampIn _)).trans (rampOut _)

theorem Station.countDown_beside : st.Beside st.countDown := by
  unfold countDown
  split <;> exact beside_of_events rfl rfl

theorem Station.takeStepReport_beside (r : StepReport) : st.Beside (st.takeStepReport cfg r) := by
  cases r with
  | nothing => exact .refl _
  | passEnd => exact raise_beside (by decide)
  | waitPark =>
    show st.Beside (st.takeWaitPark cfg)
    unfold takeWaitPark
    cases st.ctl.mode with
    | rampOutMoving => exact Beside.trans (b := st.insertReason .wait) (beside_of_events rfl rfl) (enterMode_beside _)
    | unconfigured | idle | armed | countdown | rampIn | playing | rampOutParked | held | ending | complete | tripped =>
      exact takeReason_beside _ _
  | endPark =>
    show st.Beside (st.takeEndPark cfg)
    unfold takeEndPark
    split
    · exact enterMode_beside _
    · exact .refl _

theorem Station.advanceBy_beside (n : Nat) : ∀ (x : Station) (p : Position), x.Beside (x.advanceBy cfg p n) := by
  induction n with
  | zero => exact fun x p => beside_of_events rfl rfl
  | succ n ih =>
    intro x p
    have placed : x.Beside (x.setPosition (x.singleStep p).1) := beside_of_events rfl rfl
    exact (placed.trans (takeStepReport_beside _)).trans (ih _ _)

theorem Station.advance_beside : st.Beside (st.advance cfg) := by
  unfold advance
  split
  · simp only
    split
    · exact advanceBy_beside _ _ _
    · exact .refl _
  · exact .refl _

theorem Station.noteClamp_isLatched (clamped : Bool) (e : Event) :
    (st.noteClamp clamped).isLatched e = (st.isLatched e || (clamped && decide (e = .clamp))) := by
  cases clamped with
  | false => exact (Bool.or_false _).symm
  | true => exact isLatched_raise _ .clamp e

theorem Station.noteRate_isLatched (limited : Bool) (e : Event) :
    (st.noteRate limited).isLatched e = (st.isLatched e || (limited && decide (e = .rate))) := by
  cases limited with
  | false => exact (Bool.or_false _).symm
  | true => exact isLatched_raise _ .rate e

theorem Station.computeCommand_sameTable (m : Mode) (r : EngineRegs) : st.SameTable (st.computeCommand cfg m r) := by
  have noted (clamped limited : Bool) : st.SameTable ((st.noteClamp clamped).noteRate limited) := by
    refine sameTable_of_peers (note_kept st clamped limited).2.2.2.1 fun e held => ?_
    rw [noteRate_isLatched, noteClamp_isLatched, held, Bool.true_or, Bool.true_or]
  unfold computeCommand
  simp only
  split
  · exact ⟨rfl, rfl, rfl, rfl, fun _ => id⟩
  · split <;> exact (noted _ _).trans ⟨rfl, rfl, rfl, rfl, fun _ => id⟩

theorem Station.replayUpdate_sameTable : st.SameTable (st.replayUpdate cfg) := by
  have advanced : st.SameTable (if st.ctl.mode.isMoving then st.advance cfg else st) := by
    split
    · exact advance_beside.toSameTable
    · exact (Beside.refl st).toSameTable
  unfold replayUpdate
  simp only
  split
  · exact advanced
  · exact advanced.trans (computeCommand_sameTable _ _)

/-- The blocks' work after the tick leaves the Peer Table's entries, counter and marks. -/
theorem Station.afterTick_sameTable (inA inB : BitVec 48) :
    st.SameTable ((st.countDown.replayUpdate cfg).driveUpdate cfg inA inB) :=
  (countDown_beside.toSameTable.trans replayUpdate_sameTable).trans (Judgements.beside (driveUpdate_judged _ cfg inA inB)).toSameTable

/-- Before the tick a beat instant still to be taken is taken, and the entries and the counter stand. -/
theorem Station.beforeTick_kept : let b := (st.takeReported cfg).takeDueBeat cfg
    b.peers.entries = st.peers.entries ∧ b.peers.beatCounter = st.peers.beatCounter ∧ b.peers.tickTaken = st.peers.tickTaken ∧
      b.peers.beatDue = false := by
  have reported := takeReported_beside (st := st) (cfg := cfg)
  simp only [takeDueBeat]
  split
  · have work := Judgements.beside (beatWork_judged (st.takeReported cfg) cfg)
    exact ⟨work.entries.trans reported.entries, work.counter.trans reported.counter, work.tickTaken.trans reported.tickTaken,
      work.beatDue⟩
  · next notDue => exact ⟨reported.entries, reported.counter, reported.tickTaken, by simpa using notDue⟩

end

section
variable {st : Station} {cfg : ConfigRecord}

/-- The tick taken ahead, whole, where an entry turns STALE (R100, R103). -/
theorem Station.tickAhead_lost {k : StationNo} {e : PeerEntry} (entry : st.peer k = some e)
    (stale : e.turnsStale (silenceLimit cfg) = true) : st.tickAhead cfg = { st with
      peers := { (st.peerTick cfg).peers with tickTaken := true }
      events := st.events.raise .peerLost } := by
  obtain ⟨p, events, ticked⟩ := peerTick_cases st cfg
  have raised := peerTick_lost entry stale
  rw [ticked] at raised
  simp only [tickAhead, ticked]
  rw [show events = _ from raised]

/-- Only the port is touched by its two timers. -/
theorem Station.portTicks_cases (st : Station) : ∃ p : HostPort, st.partialTick.reportTick = { st with port := p } := by
  obtain ⟨p, ticked⟩ := partialTick_cases st
  obtain ⟨q, reported⟩ := reportTick_cases st.partialTick
  exact ⟨q, by rw [reported, ticked]⟩

theorem Station.tickPeers_taken (taken : st.peers.tickTaken = true) :
    st.tickPeers cfg = { st with peers := { st.peers with tickTaken := false } } := if_pos taken

theorem Station.tickPeers_open (notTaken : st.peers.tickTaken = false) : st.tickPeers cfg = st.peerTick cfg :=
  if_neg (by simp [notTaken])

theorem PeerEntry.turnsStale_iff (e : PeerEntry) (limit : Nat) :
    e.turnsStale limit = true ↔ e.fresh = true ∧ limit < min 65535 (e.age + 1) := by
  cases fresh : e.fresh <;> simp [turnsStale, aged, ageUp, fresh]

end

/-- Settles O38: the tick by its row, and the tick of an update between what comes before and after it. -/
theorem peerTurnsStale : Obligations.PeerTurnsStale := by
  unfold Obligations.PeerTurnsStale
  refine ⟨fun s cfg k e runs => ?row, fun s cfg inA inB runs => ?update⟩
  case row =>
    dsimp only
    intro entry fresh young late notTaken
    have young' : min 65535 (e.age + 1) = e.age + 1 := Nat.min_eq_right young
    have stale : e.turnsStale (silenceLimit cfg) = true := (e.turnsStale_iff _).mpr ⟨fresh, by rw [young']; exact late⟩
    have next : s.station.staleNext cfg k = true := by simp only [Station.staleNext, entry, stale]
    constructor
    · refine (State.act_configured runs _).trans ?_
      rw [if_pos (by simp [next, notTaken]), Station.tickAhead_lost entry stale, Station.peerTick_peers, Bool.beq_eq_decide_eq]
      rfl
    · refine (Vector.getElem_map ..).trans ?_
      rw [show s.station.peers.entries[k.val] = some e from entry]
      have stays : decide (e.age + 1 ≤ 4 * cfg.beatInterval.toNat) = false := decide_eq_false (Nat.not_le.mpr late)
      simp only [Option.map_some, young', stays, Bool.and_false]
  case update =>
    obtain ⟨entries, counter, mark, noBeat⟩ := Station.beforeTick_kept (st := s.station) (cfg := cfg)
    have after : (((s.station.takeReported cfg).takeDueBeat cfg).tickPeers cfg).SameTable (s.station.blocksUpdate cfg inA inB) :=
      Station.afterTick_sameTable inA inB
    obtain ⟨p, ports⟩ := Station.portTicks_cases (s.station.blocksUpdate cfg inA inB)
    have ran := exec_update_configured runs inA inB
    rw [ports] at ran
    refine ⟨_, ran, ?_⟩
    generalize s.station.blocksUpdate cfg inA inB = z at after ⊢
    generalize (s.station.takeReported cfg).takeDueBeat cfg = b at entries counter mark noBeat after
    cases taken : s.station.peers.tickTaken with
    | true =>
      rw [Station.tickPeers_taken (mark.trans taken)] at after
      exact ⟨after.tickTaken, fun _ => ⟨after.entries.trans entries, after.counter.trans counter, after.beatDue.trans noBeat⟩,
        nofun⟩
    | false =>
      rw [Station.tickPeers_open (mark.trans taken)] at after
      have ticked := Station.peerTick_peers b cfg
      refine ⟨after.tickTaken.trans ?_, nofun, fun _ => ⟨fun k => ?_, after.counter.trans ?_,
        after.beatDue.trans ?_, fun k e entry fresh late => after.grows .peerLost ?_⟩⟩
      · rw [ticked, mark, taken]
      · have same : b.peer k = s.station.peer k := by rw [Station.peer, Station.peer, entries]
        calc z.peer k
          _ = (b.peerTick cfg).peer k := by rw [Station.peer, Station.peer, after.entries]
          _ = (b.peer k).map fun x => x.aged (silenceLimit cfg) := Station.peerTick_peer b cfg k
          _ = _ := by rw [same]; rfl
      · rw [ticked, counter]
        rfl
      · rw [ticked, noBeat, counter, Bool.false_or, Bool.beq_eq_decide_eq]
        rfl
      · have same : b.peer k = some e := by rw [Station.peer, entries]; exact entry
        have stale : e.turnsStale (silenceLimit cfg) = true := (e.turnsStale_iff _).mpr ⟨fresh, late⟩
        rw [Station.isLatched, Station.peerTick_lost same stale, EventSet.raise_getLsbD]
        exact Bool.or_true _

end Sys2Proof.Machine
end
section
/-! WHAT AN UPDATE COMPUTES (R38 to R59). The advance leaves the registers but for the increment; steps 2 to 7 give the values;
the judging of a feedback and the silence check after them leave these, or put O in their place by a trip. -/

namespace Sys2Proof.Machine

section
variable {cfg : ConfigRecord} {a b c st : Station}

/-! ### The values through a chain of judgements -/

/-- The registers stand, the increment apart. -/
def Station.SameRegs (a b : Station) : Prop :=
  ∀ r, a.engine.regs = some r → ∃ i, b.engine.regs = some { r with increment := i }

/-- O stands in place of c, and g is 0 (R59, R91). -/
def Station.Forced (cfg : ConfigRecord) (a b : Station) : Prop :=
  (∀ r, a.engine.regs = some r → ∃ i, b.engine.regs = some
    { r with fade := 0, command := offset cfg, commandPrev := offset cfg, increment := i }) ∧
  b.engine.offered = some { command := offset cfg, previous := offset cfg }

theorem Station.SameRegs.refl (a : Station) : a.SameRegs a := fun r regs => ⟨r.increment, regs⟩

theorem Station.SameRegs.trans (h : a.SameRegs b) (h' : b.SameRegs c) : a.SameRegs c := fun r regs => by
  obtain ⟨i, regs'⟩ := h r regs
  obtain ⟨j, regs''⟩ := h' _ regs'
  exact ⟨j, regs''⟩

/-- The changes of state that a judgement brings: a hold, or a trip (R65, R91). -/
def Mode.JudgedTo (m n : Mode) : Prop :=
  ((m = .rampIn ∨ m = .playing ∨ m = .countdown) ∧ (n = .rampOutMoving ∨ n = .rampOutParked ∨ n = .held)) ∨
    (n = .tripped ∧ m ≠ .tripped)

theorem Mode.JudgedTo.trans {m n k : Mode} (h : m.JudgedTo n) (h' : n.JudgedTo k) : m.JudgedTo k := by
  rcases h with ⟨from', into⟩ | ⟨rfl, other⟩
  · rcases h' with ⟨again, -⟩ | ⟨rfl, -⟩
    · rcases into with rfl | rfl | rfl <;> simp at again
    · exact .inr ⟨rfl, by rcases from' with rfl | rfl | rfl <;> decide⟩
  · rcases h' with ⟨again, -⟩ | ⟨-, again⟩
    · simp at again
    · exact absurd rfl again

/-- What a chain of judgements leaves of an update's values. -/
structure Station.Follows (cfg : ConfigRecord) (a b : Station) : Prop where
  clampCount : b.engine.clampCount = a.engine.clampCount
  rateCount : b.engine.rateCount = a.engine.rateCount
  mode : (b.ctl.mode = a.ctl.mode ∧ b.engine.fadeEnd = a.engine.fadeEnd ∧ b.ctl.countdown = a.ctl.countdown) ∨
    (a.ctl.mode.JudgedTo b.ctl.mode ∧ b.engine.fadeEnd = none)
  stands : (b.ctl.mode = .tripped → a.ctl.mode = .tripped) → a.SameRegs b ∧ b.engine.offered = a.engine.offered
  forced : b.ctl.mode = .tripped → a.ctl.mode ≠ .tripped → a.Forced cfg b

theorem Station.Follows.tripped (h : a.Follows cfg b) (tripped : a.ctl.mode = .tripped) : b.ctl.mode = .tripped := by
  rcases h.mode with ⟨same, -⟩ | ⟨⟨from', -⟩ | ⟨into, -⟩, -⟩
  · exact same.trans tripped
  · simp [tripped] at from'
  · exact into

theorem Station.Follows.trans (h : a.Follows cfg b) (h' : b.Follows cfg c) : a.Follows cfg c where
  clampCount := h'.clampCount.trans h.clampCount
  rateCount := h'.rateCount.trans h.rateCount
  mode := by
    rcases h.mode with ⟨mode, fadeEnd, countdown⟩ | ⟨into, fadeEnd⟩ <;>
      rcases h'.mode with ⟨mode', fadeEnd', countdown'⟩ | ⟨into', fadeEnd'⟩
    · exact .inl ⟨mode'.trans mode, fadeEnd'.trans fadeEnd, countdown'.trans countdown⟩
    · exact .inr ⟨mode ▸ into', fadeEnd'⟩
    · exact .inr ⟨mode' ▸ into, fadeEnd'.trans fadeEnd⟩
    · exact .inr ⟨into.trans into', fadeEnd'⟩
  stands := fun still => by
    obtain ⟨regs, offered⟩ := h.stands fun tripped => still (h'.tripped tripped)
    obtain ⟨regs', offered'⟩ := h'.stands fun tripped => h.tripped (still tripped)
    exact ⟨regs.trans regs', offered'.trans offered⟩
  forced := fun tripped other => by
    by_cases early : b.ctl.mode = .tripped
    · obtain ⟨regs, offered⟩ := h.forced early other
      obtain ⟨regs', offered'⟩ := h'.stands fun _ => early
      refine ⟨fun r hr => ?_, offered'.trans offered⟩
      obtain ⟨i, forced⟩ := regs r hr
      obtain ⟨j, forced'⟩ := regs' _ forced
      exact ⟨j, forced'⟩
    · obtain ⟨regs, -⟩ := h.stands fun tripped' => absurd tripped' early
      obtain ⟨regs', offered'⟩ := h'.forced tripped early
      refine ⟨fun r hr => ?_, offered'⟩
      obtain ⟨i, same⟩ := regs r hr
      obtain ⟨j, forced⟩ := regs' _ same
      exact ⟨j, forced⟩

/-- A change that leaves the state, its countdown and the engine but for the increment. -/
theorem Station.follows_of_same (clampCount : b.engine.clampCount = a.engine.clampCount)
    (rateCount : b.engine.rateCount = a.engine.rateCount) (mode : b.ctl.mode = a.ctl.mode)
    (fadeEnd : b.engine.fadeEnd = a.engine.fadeEnd) (countdown : b.ctl.countdown = a.ctl.countdown) (regs : a.SameRegs b)
    (offered : b.engine.offered = a.engine.offered) : a.Follows cfg b :=
  ⟨clampCount, rateCount, .inl ⟨mode, fadeEnd, countdown⟩, fun _ => ⟨regs, offered⟩,
    fun tripped other => absurd (mode ▸ tripped) other⟩

theorem Station.enterMode_sameRegs (m : Mode) : st.SameRegs (st.enterMode cfg m) := fun r regs => by
  rw [enterMode_eq]
  simp only [regs]
  split
  · exact ⟨_, rfl⟩
  · exact ⟨_, rfl⟩

/-- The start of a hold enters its state with the engine's values (R66). -/
theorem Station.holdStarts_follows {r : HoldReason} {k : StationNo} {m : Mode} (into : st.ctl.mode.JudgedTo m)
    (other : m ≠ .tripped) : st.Follows cfg (((st.insertReason r).enterMode cfg m).startHold r k) := by
  have mode : (((st.insertReason r).enterMode cfg m).startHold r k).ctl.mode = m := by rw [startHold_mode, enterMode_mode]
  have engine := startHold_engine ((st.insertReason r).enterMode cfg m) r k
  have regs : st.SameRegs (((st.insertReason r).enterMode cfg m).startHold r k) := fun x hx => by
    rw [engine]
    exact enterMode_sameRegs (st := st.insertReason r) m x hx
  refine ⟨?_, ?_, .inr ⟨by rw [mode]; exact into, ?_⟩, fun _ => ⟨regs, ?_⟩, fun tripped => absurd (mode ▸ tripped) other⟩ <;>
    rw [engine, enterMode_eq] <;> rfl

theorem Station.takeReason_follows (r : HoldReason) (k : StationNo) : st.Follows cfg (st.takeReason cfg r k) := by
  have joined : st.Follows cfg (st.insertReason r) := follows_of_same rfl rfl rfl rfl rfl (.refl st) rfl
  unfold takeReason
  cases mode : st.ctl.mode with
  | rampIn | playing =>
    refine holdStarts_follows ?_ (by split <;> decide)
    rw [mode]
    split <;> exact .inl (by simp)
  | countdown => exact holdStarts_follows (.inl (by simp [mode])) (by decide)
  | rampOutMoving | rampOutParked | held | ending | complete => exact joined
  | unconfigured | idle | armed | tripped => exact follows_of_same rfl rfl rfl rfl rfl (.refl st) rfl

theorem Station.takeTrip_follows (cause : TripCause) (k : StationNo) : st.Follows cfg (st.takeTrip cfg cause k) := by
  by_cases permit : st.ctl.mode.isPermit = true
  · have other : st.ctl.mode ≠ .tripped := fun tripped => by simp [tripped, Mode.isPermit] at permit
    have mode := takeTrip_tripped (cfg := cfg) permit cause k
    have engine : (st.takeTrip cfg cause k).engine = { st.engine with
        regs := st.engine.regs.map fun x =>
          { x with fade := 0, command := offset cfg, commandPrev := offset cfg, increment := nominal cfg }
        offered := some { command := offset cfg, previous := offset cfg }, fadeEnd := none } := by
      simp only [takeTrip, permit, if_true, enterMode_eq, forceOffset, emptyControl, Mode.isMoving, Bool.false_eq_true, if_false,
        Option.map_map]
      split <;> rfl
    refine ⟨by rw [engine], by rw [engine], .inr ⟨.inr ⟨mode, other⟩, by rw [engine]⟩, fun still => absurd (still mode) other,
      fun _ _ => ⟨fun x hx => ?_, by rw [engine]⟩⟩
    rw [engine, hx]
    exact ⟨_, rfl⟩
  · rw [takeTrip_noPermit (by simpa using permit)]
    exact follows_of_same rfl rfl rfl rfl rfl (.refl st) rfl

theorem Judgement.follows (h : Judgement cfg a b) : a.Follows cfg b := by
  cases h with
  | takeReason r k => exact Station.takeReason_follows r k
  | takeTrip cause k => exact Station.takeTrip_follows cause k
  | increment n =>
    refine Station.follows_of_same rfl rfl rfl rfl rfl (fun r regs => ⟨n, ?_⟩) rfl
    simp [Station.setIncrement, regs]
  | _ => exact Station.follows_of_same rfl rfl rfl rfl rfl (.refl a) rfl

theorem Judgements.follows (h : Judgements cfg a b) : a.Follows cfg b := by
  induction h with
  | refl => exact Station.follows_of_same rfl rfl rfl rfl rfl (.refl a) rfl
  | tail _ last ih => exact ih.trans last.follows

/-! ### The advance -/

/-- What an advance leaves: the registers but for the increment, the counts and the schedule. -/
structure Station.AdvancedFrom (a b : Station) : Prop where
  regs : a.SameRegs b
  clampCount : b.engine.clampCount = a.engine.clampCount
  rateCount : b.engine.rateCount = a.engine.rateCount
  fadeEnd : a.engine.fadeEnd = none → b.engine.fadeEnd = none
  schedule : b.schedule = a.schedule

theorem Station.AdvancedFrom.refl (a : Station) : a.AdvancedFrom a := ⟨.refl a, rfl, rfl, id, rfl⟩

theorem Station.AdvancedFrom.trans (h : a.AdvancedFrom b) (h' : b.AdvancedFrom c) : a.AdvancedFrom c :=
  ⟨h.regs.trans h'.regs, h'.clampCount.trans h.clampCount, h'.rateCount.trans h.rateCount, fun none' => h'.fadeEnd (h.fadeEnd none'),
    h'.schedule.trans h.schedule⟩

theorem Station.enterMode_advancedFrom (m : Mode) : st.AdvancedFrom (st.enterMode cfg m) :=
  ⟨enterMode_sameRegs m, by rw [enterMode_eq], by rw [enterMode_eq], fun _ => enterMode_fadeEnd .., enterMode_schedule ..⟩

theorem Station.takeReason_advancedFrom (r : HoldReason) (k : StationNo) : st.AdvancedFrom (st.takeReason cfg r k) := by
  obtain ⟨clampCount, rateCount, mode, stands, -⟩ := takeReason_follows (st := st) (cfg := cfg) r k
  have notTripped : (st.takeReason cfg r k).ctl.mode = .tripped → st.ctl.mode = .tripped := fun tripped => by
    have group := takeReason_runGroup st cfg r k
    rcases mode with ⟨same, -⟩ | ⟨⟨-, into⟩ | ⟨-, -⟩, -⟩
    · exact same ▸ tripped
    · simp [tripped] at into
    · cases mode : st.ctl.mode <;> simp_all [Mode.inRunGroup, takeReason]
  refine ⟨(stands notTripped).1, clampCount, rateCount, fun none' => ?_, (takeReason_kept ..).2.2.1⟩
  rcases mode with ⟨-, same, -⟩ | ⟨-, cleared⟩
  · exact same.trans none'
  · exact cleared

theorem Station.takeStepReport_advancedFrom (r : StepReport) : st.AdvancedFrom (st.takeStepReport cfg r) := by
  cases r with
  | nothing => exact .refl _
  | passEnd => exact ⟨.refl _, rfl, rfl, id, rfl⟩
  | waitPark =>
    show st.AdvancedFrom (st.takeWaitPark cfg)
    unfold takeWaitPark
    cases st.ctl.mode with
    | rampOutMoving =>
      exact AdvancedFrom.trans (b := st.insertReason .wait) ⟨.refl _, rfl, rfl, id, rfl⟩ (enterMode_advancedFrom _)
    | unconfigured | idle | armed | countdown | rampIn | playing | rampOutParked | held | ending | complete | tripped =>
      exact takeReason_advancedFrom _ _
  | endPark =>
    show st.AdvancedFrom (st.takeEndPark cfg)
    unfold takeEndPark
    split
    · exact enterMode_advancedFrom _
    · exact .refl _

theorem Station.advanceBy_advancedFrom (n : Nat) : ∀ (x : Station) (p : Position), x.AdvancedFrom (x.advanceBy cfg p n) := by
  induction n with
  | zero => exact fun x p => ⟨.refl _, rfl, rfl, id, rfl⟩
  | succ n ih =>
    intro x p
    have placed : x.AdvancedFrom (x.setPosition (x.singleStep p).1) := ⟨.refl _, rfl, rfl, id, rfl⟩
    exact (placed.trans (takeStepReport_advancedFrom _)).trans (ih _ _)

theorem Station.advance_advancedFrom : st.AdvancedFrom (st.advance cfg) := by
  unfold advance
  split
  · simp only
    split
    · exact advanceBy_advancedFrom _ _ _
    · exact .refl _
  · exact .refl _

/-! ### Steps 2 to 7 -/

theorem Station.note_engine (clamped limited : Bool) : ((st.noteClamp clamped).noteRate limited).engine = { st.engine with
    clampCount := if clamped then countUp st.engine.clampCount else st.engine.clampCount
    rateCount := if limited then countUp st.engine.rateCount else st.engine.rateCount } := by
  cases clamped <;> cases limited <;> rfl

/-- The level of step 3, the fade gain of step 4, what step 5 clamps, and the commands of steps 5 and 6 (R43 to R56). -/
def Station.wantedCommand (st : Station) (cfg : ConfigRecord) (m : Mode) (r : EngineRegs) : Int :=
  if m.isComputing then
    offset cfg + scaleFade (scaleLevel st.interpolated (moveLevel r.level r.target cfg.levelStep.toNat))
      (moveFade m r.fade (fadeStep cfg))
  else offset cfg

def Station.clampedCommand (st : Station) (cfg : ConfigRecord) (m : Mode) (r : EngineRegs) : Int :=
  if m.isComputing then clampInt (cMin cfg) (cMax cfg) (st.wantedCommand cfg m r) else st.wantedCommand cfg m r

def Station.newCommand (st : Station) (cfg : ConfigRecord) (m : Mode) (r : EngineRegs) : Int :=
  limitRate (st.clampedCommand cfg m r) r.commandPrev cfg.rateLimit.toNat

/-- Steps 5 and 6 noted: what is clamped and what is rate-limited is counted and raised (R53 to R55). -/
def Station.noted (st : Station) (cfg : ConfigRecord) (m : Mode) (r : EngineRegs) : Station :=
  (st.noteClamp (st.clampedCommand cfg m r != st.wantedCommand cfg m r)).noteRate
    (st.newCommand cfg m r != st.clampedCommand cfg m r)

/-- Steps 2 to 7 outside TRIPPED, value by value (R43 to R57). -/
theorem Station.computeCommand_values {m : Mode} (other : m ≠ .tripped) (r : EngineRegs) :
    let y := st.computeCommand cfg m r
    let c1 := st.clampedCommand cfg m r
    let c := st.newCommand cfg m r
    y.engine.regs = some { r with
      fade := moveFade m r.fade (fadeStep cfg), level := moveLevel r.level r.target cfg.levelStep.toNat
      command := c, commandPrev := c } ∧
    y.engine.offered = some { command := c, previous := r.commandPrev } ∧
    y.engine.clampCount = (if c1 = st.wantedCommand cfg m r then st.engine.clampCount else countUp st.engine.clampCount) ∧
    y.engine.rateCount = (if c = c1 then st.engine.rateCount else countUp st.engine.rateCount) ∧
    y.isLatched .clamp = (st.isLatched .clamp || decide (c1 ≠ st.wantedCommand cfg m r)) ∧
    y.isLatched .rate = (st.isLatched .rate || decide (c ≠ c1)) := by
  obtain ⟨f, computed⟩ : ∃ f, st.computeCommand cfg m r = { st.noted cfg m r with
      engine := { (st.noted cfg m r).engine with
        regs := some { r with
          fade := moveFade m r.fade (fadeStep cfg), level := moveLevel r.level r.target cfg.levelStep.toNat
          command := st.newCommand cfg m r, commandPrev := st.newCommand cfg m r }
        offered := some { command := st.newCommand cfg m r, previous := r.commandPrev }
        fadeEnd := f } } := by
    unfold computeCommand
    simp only [if_neg other]
    cases fadeReport m st.ctl.mode (moveFade m r.fade (fadeStep cfg)) with
    | none => exact ⟨((st.noted cfg m r)).engine.fadeEnd, rfl⟩
    | some f => exact ⟨some f, rfl⟩
  have engine : (st.noted cfg m r).engine = _ := note_engine ..
  have latched (e : Event) : (st.noted cfg m r).isLatched e = _ := (noteRate_isLatched ..).trans
    (congrArg (· || _) (noteClamp_isLatched ..))
  dsimp only
  rw [computed]
  refine ⟨rfl, rfl, ?_, ?_, ?_, ?_⟩
  · simp only [engine, bne_iff_ne, ne_eq, ite_not]
  · simp only [engine, bne_iff_ne, ne_eq, ite_not]
  · refine (latched .clamp).trans ?_
    simp [bne, beq_eq_decide]
  · refine (latched .rate).trans ?_
    simp [bne, beq_eq_decide]
/-- Steps 2 to 7 leave the configuration, the store and the segments. -/
theorem Station.computeCommand_ground (m : Mode) (r : EngineRegs) : st.SameGround (st.computeCommand cfg m r) := by
  have noted (clamped limited : Bool) : st.SameGround ((st.noteClamp clamped).noteRate limited) := by
    cases clamped <;> cases limited <;> exact ⟨rfl, rfl, rfl, rfl, rfl, rfl, rfl, rfl⟩
  unfold computeCommand
  simp only
  split
  · exact ⟨rfl, rfl, rfl, rfl, rfl, rfl, rfl, rfl⟩
  · split <;> exact (noted _ _).trans ⟨rfl, rfl, rfl, rfl, rfl, rfl, rfl, rfl⟩

/-- An update in TRIPPED: c = c_prev = O, and the rest of the engine stands but for the level (R59). -/
theorem Station.computeCommand_tripped (r : EngineRegs) : st.computeCommand cfg .tripped r =
    st.setEngine { r with level := moveLevel r.level r.target cfg.levelStep.toNat, command := offset cfg, commandPrev := offset cfg }
      { command := offset cfg, previous := offset cfg } := by
  simp [computeCommand]

theorem Station.computeCommand_tripped_isLatched (r : EngineRegs) (e : Event) :
    (st.computeCommand cfg .tripped r).isLatched e = st.isLatched e := by
  rw [computeCommand_tripped]
  rfl

theorem clampInt_eq {low high : Int} (h : low ≤ high) (x : Int) : clampInt low high x = max low (min high x) := by
  unfold clampInt
  split_ifs <;> omega

theorem cMin_le_cMax (legal : legalRecord cfg = true) : cMin cfg ≤ cMax cfg := by
  obtain ⟨low, high⟩ := allowed_iff.mp (allowed_offset legal)
  exact low.trans high

/-! ### The whole update -/

/-- The station as an update's steps 1 to 7 find it, with nothing to take before them (R39, R78, R100). -/
def Station.begun (st : Station) (cfg : ConfigRecord) : Station := (st.tickPeers cfg).countDown

/-- The station after step 1 (R40). -/
def Station.moved (st : Station) (cfg : ConfigRecord) : Station :=
  if st.ctl.mode.isMoving then (st.begun cfg).advance cfg else st.begun cfg

theorem Station.tickPeers_cases : ∃ (p : PeerTable) (e : EventSet), st.tickPeers cfg = { st with peers := p, events := e } ∧
    ∀ x : Event, x = .clamp ∨ x = .rate → ({ st with peers := p, events := e } : Station).isLatched x = st.isLatched x := by
  cases taken : st.peers.tickTaken with
  | true => exact ⟨_, _, tickPeers_taken taken, fun _ _ => rfl⟩
  | false =>
    obtain ⟨p, e, ticked⟩ := peerTick_cases st cfg
    refine ⟨p, e, (tickPeers_open taken).trans ticked, fun x hx => ?_⟩
    have events : e = (st.peerTick cfg).events := by rw [ticked]
    rcases peerTick_events st cfg with same | raised
    · rw [isLatched, show e = st.events from events.trans same, isLatched]
    · rw [isLatched, show e = st.events.raise .peerLost from events.trans raised, EventSet.raise_getLsbD, isLatched]
      rcases hx with rfl | rfl <;> exact Bool.or_false _

/-- What stands before step 1 begins. -/
theorem Station.begun_kept : (st.begun cfg).engine = st.engine ∧ (st.begun cfg).ctl.mode = st.ctl.mode ∧ st.SameGround (st.begun cfg) ∧
    (∀ x : Event, x = .clamp ∨ x = .rate → (st.begun cfg).isLatched x = st.isLatched x) ∧
    (st.ctl.mode = .countdown → (st.begun cfg).ctl.countdown = st.ctl.countdown.map (· - 1)) := by
  obtain ⟨p, e, ticked, quiet⟩ := tickPeers_cases (st := st) (cfg := cfg)
  unfold begun countDown
  rw [ticked]
  split
  · exact ⟨rfl, rfl, ⟨rfl, rfl, rfl, rfl, rfl, rfl, rfl, rfl⟩, quiet, fun _ => rfl⟩
  · next other => exact ⟨rfl, rfl, ⟨rfl, rfl, rfl, rfl, rfl, rfl, rfl, rfl⟩, quiet, fun mode => absurd mode other⟩

/-- What step 1 leaves, and the state it may park (R31, R32, R40). -/
structure Station.MovedFrom (cfg : ConfigRecord) (a b : Station) : Prop where
  regs : a.SameRegs b
  clampCount : b.engine.clampCount = a.engine.clampCount
  rateCount : b.engine.rateCount = a.engine.rateCount
  fadeEnd : b.engine.fadeEnd = none
  config : b.config = a.config
  store : b.store = a.store
  segments : b.segments = a.segments
  cutLoadings : b.cutLoadings = a.cutLoadings
  schedule : b.schedule = a.schedule
  quiet : ∀ e : Event, e = .clamp ∨ e = .rate → b.isLatched e = a.isLatched e
  parks : b.MayPark a.ctl.mode
  countdown : a.ctl.mode = .countdown → b.ctl.countdown = a.ctl.countdown.map (· - 1)

theorem Station.moved_from (unreported : st.engine.fadeEnd = none) : st.MovedFrom cfg (st.moved cfg) := by
  obtain ⟨engine, mode, ground, quiet, countdown⟩ := begun_kept (st := st) (cfg := cfg)
  have regs : st.SameRegs (st.begun cfg) := fun r hr => ⟨r.increment, by rw [engine]; exact hr⟩
  unfold moved
  split
  · next moving =>
    have advanced := advance_advancedFrom (st := st.begun cfg) (cfg := cfg)
    have beside := advance_beside (st := st.begun cfg) (cfg := cfg)
    have parks := advance_mayPark (st.begun cfg) cfg (by rw [mode]; exact moving)
    obtain ⟨-, -, -, -, config, store, segments, cutLoadings, -, -⟩ := advance_same (st.begun cfg) cfg
    exact ⟨regs.trans advanced.regs, advanced.clampCount.trans (by rw [engine]), advanced.rateCount.trans (by rw [engine]),
      advanced.fadeEnd (by rw [engine]; exact unreported), config.trans ground.config, store.trans ground.store,
      segments.trans ground.segments, cutLoadings.trans ground.cutLoadings, advanced.schedule.trans ground.schedule,
      fun e he => (beside.quiet e he).trans (quiet e he), mode ▸ parks, fun still => by simp [still, Mode.isMoving] at moving⟩
  · exact ⟨regs, by rw [engine], by rw [engine], by rw [engine]; exact unreported, ground.config, ground.store, ground.segments,
      ground.cutLoadings, ground.schedule, quiet, .inl mode, countdown⟩

/-- An update with nothing to take before it: step 1, steps 2 to 7, the judging of what comes in, and the port's timers. -/
theorem exec_update_computes {s : State} {r : EngineRegs} (runs : s.station.RunsIn cfg) (regs : s.station.engine.regs = some r)
    (unreported : s.station.Unreported) (noBeat : s.station.peers.beatDue = false) (inA inB : BitVec 48) :
    ∃ (i : Nat) (z : Station) (p : HostPort), exec (.update inA inB) s = .next (s.withStation ({ z with port := p })) ∧
      Judgements cfg ((s.station.moved cfg).computeCommand cfg s.station.ctl.mode { r with increment := i }) z := by
  obtain ⟨i, moved⟩ := (Station.moved_from (cfg := cfg) unreported.1).regs r regs
  obtain ⟨-, mode, -⟩ := Station.begun_kept (st := s.station) (cfg := cfg)
  have replayed : (s.station.begun cfg).replayUpdate cfg =
      (s.station.moved cfg).computeCommand cfg s.station.ctl.mode { r with increment := i } := by
    unfold Station.moved at moved ⊢
    unfold Station.replayUpdate
    simp only [mode, moved]
  obtain ⟨p, ports⟩ := Station.portTicks_cases (((s.station.begun cfg).replayUpdate cfg).driveUpdate cfg inA inB)
  refine ⟨i, ((s.station.begun cfg).replayUpdate cfg).driveUpdate cfg inA inB, p,
    (exec_update_plain runs unreported noBeat inA inB).trans ?_, ?_⟩
  · exact congrArg (fun st => Host.Outcome.next (s.withStation st)) ports
  · rw [← replayed]
    exact Station.driveUpdate_judged ..

/-- The end of a fade that stands after the judging is the one that step 4 reported, unless the state has changed (R49, R50). -/
theorem Station.fadeEnd_after {m : Mode} {fade : Nat} (follows : a.Follows cfg b) (parks : a.ctl.mode = m ∨
    (m.isMoving = true ∧ (a.ctl.mode = .rampOutParked ∨ a.ctl.mode = .ending)))
    (reported : a.engine.fadeEnd = fadeReport m a.ctl.mode fade) : b.engine.fadeEnd =
      (if m = .rampIn ∧ b.ctl.mode = .rampIn ∧ fade = 32768 then some .rampIn
        else if m.isFadingOut = true ∧ b.ctl.mode.isFadingOut = true ∧ fade = 0 then some .rampOut else none) := by
  rcases follows.mode with ⟨mode, same, -⟩ | ⟨⟨from', into⟩ | ⟨tripped, -⟩, cleared⟩
  · have fading (out : m.isFadingOut = true) : a.ctl.mode.isFadingOut = true := by
      rcases parks with still | ⟨-, parked | parked⟩
      · rw [still, out]
      · rw [parked]; rfl
      · rw [parked]; rfl
    rw [same, reported, mode, fadeReport]
    by_cases rampIn : m = .rampIn
    · subst rampIn
      simp [Mode.isFadingOut, and_comm]
    · by_cases out : m.isFadingOut = true
      · simp [rampIn, out, fading out]
      · simp [rampIn, out]
  · have notIn : b.ctl.mode ≠ .rampIn := by rcases into with h | h | h <;> rw [h] <;> decide
    have notOut : ¬ m.isFadingOut = true := fun out => by
      rcases parks with still | ⟨-, parked | parked⟩
      · rcases from' with h | h | h <;> rw [← still, h] at out <;> cases out
      · simp [parked] at from'
      · simp [parked] at from'
    rw [cleared, if_neg (fun h => notIn h.2.1), if_neg (fun h => notOut h.1)]
  · rw [cleared, tripped]
    simp [Mode.isFadingOut]

/-- What the judging leaves in TRIPPED: O in place of c, the rest as steps 2 to 7 gave it (R59). -/
theorem Station.values_tripped {r : EngineRegs} (tripped : st.ctl.mode = .tripped) (fadeEnd : st.engine.fadeEnd = none)
    (follows : (st.computeCommand cfg .tripped r).Follows cfg b) :
    ∃ x, b.engine.regs = some x ∧ x.level = moveLevel r.level r.target cfg.levelStep.toNat ∧ x.target = r.target ∧
      x.fade = r.fade ∧ x.command = offset cfg ∧ x.commandPrev = offset cfg ∧
      b.engine.offered = some { command := offset cfg, previous := offset cfg } ∧ b.engine.fadeEnd = none ∧
      b.engine.clampCount = st.engine.clampCount ∧ b.engine.rateCount = st.engine.rateCount := by
  rw [computeCommand_tripped] at follows
  obtain ⟨regs, offered⟩ := follows.stands fun _ => tripped
  obtain ⟨j, hx⟩ := regs _ rfl
  refine ⟨_, hx, rfl, rfl, rfl, rfl, rfl, offered, ?_, follows.clampCount, follows.rateCount⟩
  rcases follows.mode with ⟨-, same, -⟩ | ⟨-, cleared⟩
  · exact same.trans fadeEnd
  · exact cleared

/-- What the judging leaves of steps 2 to 7 in the other states: their values, or O after a trip (R53 to R57, R91). -/
theorem Station.values_running {m : Mode} {r : EngineRegs} (other : m ≠ .tripped) (running : st.ctl.mode ≠ .tripped)
    (follows : (st.computeCommand cfg m r).Follows cfg b) :
    ∃ x, b.engine.regs = some x ∧ x.level = moveLevel r.level r.target cfg.levelStep.toNat ∧ x.target = r.target ∧
      (b.ctl.mode ≠ .tripped → x.fade = moveFade m r.fade (fadeStep cfg) ∧ x.command = st.newCommand cfg m r ∧
        x.commandPrev = st.newCommand cfg m r ∧
        b.engine.offered = some { command := st.newCommand cfg m r, previous := r.commandPrev }) ∧
      (b.ctl.mode = .tripped → x.command = offset cfg ∧ x.commandPrev = offset cfg ∧
        b.engine.offered = some { command := offset cfg, previous := offset cfg } ∧ x.fade = 0) := by
  obtain ⟨regs, offered, -⟩ := computeCommand_values (st := st) (cfg := cfg) other r
  have mode : (st.computeCommand cfg m r).ctl.mode ≠ .tripped := by rwa [(computeCommand_kept st cfg m r).1]
  by_cases tripped : b.ctl.mode = .tripped
  · obtain ⟨regs', offered'⟩ := follows.forced tripped mode
    obtain ⟨j, hx⟩ := regs' _ regs
    exact ⟨_, hx, rfl, rfl, fun still => absurd tripped still, fun _ => ⟨rfl, rfl, offered', rfl⟩⟩
  · obtain ⟨regs', offered'⟩ := follows.stands fun h => absurd h tripped
    obtain ⟨j, hx⟩ := regs' _ regs
    exact ⟨_, hx, rfl, rfl, fun _ => ⟨rfl, rfl, rfl, offered'.trans offered⟩, fun h => absurd h tripped⟩

/-- The command of step 5 between its limits, for a legal record (R53). -/
theorem Station.clampedCommand_eq (legal : legalRecord cfg = true) (m : Mode) (r : EngineRegs) : st.clampedCommand cfg m r =
    if m.isComputing then max (cMin cfg) (min (cMax cfg) (st.wantedCommand cfg m r)) else offset cfg := by
  unfold clampedCommand
  split
  · exact clampInt_eq (cMin_le_cMax legal) _
  · next still => simp [wantedCommand, still]

end

/-- Settles O34: step 1, the values of steps 2 to 7, and what the judging after them leaves of these. -/
theorem updateComputesTheCommand : Obligations.UpdateComputesTheCommand := by
  unfold Obligations.UpdateComputesTheCommand
  intro s cfg r inA inB runs regs fadeEnd noBeat countdown
  dsimp only
  intro legal
  have unreported : s.station.Unreported := ⟨fadeEnd, countdown⟩
  obtain ⟨i, z, p, ran, judged⟩ := exec_update_computes runs regs unreported noBeat inA inB
  have moved := Station.moved_from (cfg := cfg) (st := s.station) fadeEnd
  have follows := Judgements.follows judged
  have quiet := (Judgements.beside judged).quiet
  have ground := (Station.computeCommand_ground (st := s.station.moved cfg) (cfg := cfg) s.station.ctl.mode
    { r with increment := i }).trans (Judgements.sameGround judged)
  have ctl := (Station.computeCommand_kept (s.station.moved cfg) cfg s.station.ctl.mode { r with increment := i }).1
  have counting (m : s.station.ctl.mode = .countdown) (still : z.ctl.mode = .countdown) :
      z.ctl.countdown = s.station.ctl.countdown.map (· - 1) := by
    rcases follows.mode with ⟨-, -, same⟩ | ⟨⟨-, into⟩ | ⟨into, -⟩, -⟩
    · rw [same, ctl, moved.countdown m]
    · simp [still] at into
    · simp [still] at into
  rcases eq_or_ne s.station.ctl.mode .tripped with tripped | other
  · rw [tripped] at follows quiet
    have stays : (s.station.moved cfg).ctl.mode = .tripped := by
      rcases moved.parks with same | ⟨moving, -⟩
      · exact same.trans tripped
      · simp [tripped, Mode.isMoving] at moving
    obtain ⟨x, hx, level, target, fade, command, prev, offered, noEnd, clampCount, rateCount⟩ :=
      Station.values_tripped stays moved.fadeEnd follows
    refine ⟨_, x, ran, rfl, hx, level, target, ground.position, ground.config.trans moved.config, ground.store.trans moved.store,
      ground.segments.trans moved.segments, ground.cutLoadings.trans moved.cutLoadings, ground.schedule.trans moved.schedule,
      counting, ?_, fun other => absurd tripped other, fun _ => ⟨command, prev, offered, fun other => absurd tripped other⟩,
      fun _ => ⟨fade, clampCount.trans moved.clampCount, rateCount.trans moved.rateCount, ?_, ?_⟩⟩
    · refine Eq.trans (b := none) noEnd ?_
      simp [tripped, Mode.isFadingOut]
    · exact (quiet .clamp (.inl rfl)).trans ((Station.computeCommand_tripped_isLatched _ .clamp).trans
        (moved.quiet .clamp (.inl rfl)))
    · exact (quiet .rate (.inr rfl)).trans ((Station.computeCommand_tripped_isLatched _ .rate).trans
        (moved.quiet .rate (.inr rfl)))
  · have running : (s.station.moved cfg).ctl.mode ≠ .tripped := by
      rcases moved.parks with same | ⟨-, parked | parked, -⟩
      · rwa [same]
      · rw [parked]; decide
      · rw [parked]; decide
    have parks := moved.parks.imp id fun ⟨moving, parked, _⟩ => And.intro moving parked
    rw [← ctl] at parks
    have reported := Station.computeCommand_fadeEnd (st := s.station.moved cfg) cfg s.station.ctl.mode { r with increment := i } other
    rw [moved.fadeEnd, Option.or_none, ← ctl] at reported
    have finished := Station.fadeEnd_after follows parks reported
    obtain ⟨-, -, clampCount, rateCount, clamp, rate⟩ := Station.computeCommand_values (st := s.station.moved cfg) (cfg := cfg) other
      { r with increment := i }
    obtain ⟨x, hx, level, target, same, forced⟩ := Station.values_running other running follows
    simp only [Station.newCommand, Station.clampedCommand_eq legal] at clampCount rateCount clamp rate same
    refine ⟨_, x, ran, rfl, hx, level, target, ground.position, ground.config.trans moved.config, ground.store.trans moved.store,
      ground.segments.trans moved.segments, ground.cutLoadings.trans moved.cutLoadings, ground.schedule.trans moved.schedule,
      counting, finished, fun _ => ⟨?_, ?_, ?_, ?_, same⟩,
      fun tripped => ?_, fun tripped => absurd tripped other⟩
    · refine follows.clampCount.trans (clampCount.trans ?_)
      rw [moved.clampCount]
      rfl
    · refine follows.rateCount.trans (rateCount.trans ?_)
      rw [moved.rateCount]
      rfl
    · refine (quiet .clamp (.inl rfl)).trans (clamp.trans ?_)
      rw [moved.quiet .clamp (.inl rfl)]
      rfl
    · refine (quiet .rate (.inr rfl)).trans (rate.trans ?_)
      rw [moved.quiet .rate (.inr rfl)]
      rfl
    · obtain ⟨command, prev, offered, fade⟩ := forced tripped
      exact ⟨command, prev, offered, fun _ => fade⟩

end Sys2Proof.Machine
end
section
/-! THE THREE CHECKS OF A BEAT INSTANT (R107 to R119). -/

namespace Sys2Proof.Machine

/-! ### The median -/

section
variable {l : List Int} {i : Nat}

theorem length_filter_split (p : Int → Bool) (i : Nat) :
    (l.filter p).length = ((l.take i).filter p).length + ((l.drop i).filter p).length := by
  rw [← List.length_append, ← List.filter_append, List.take_append_drop]

/-- Of a sorted list, what is less than an element stands before it. -/
theorem length_filter_lt_of_sorted (sorted : l.Pairwise (· ≤ ·)) (h : i < l.length) : (l.filter (· < l[i])).length ≤ i := by
  have none' : (l.drop i).filter (· < l[i]) = [] := by
    refine List.filter_eq_nil_iff.mpr fun x mem => ?_
    obtain ⟨j, hj, rfl⟩ := List.getElem_of_mem mem
    rw [List.getElem_drop]
    simpa using sorted.rel_get_of_le (a := ⟨i, h⟩) (b := ⟨i + j, by simp at hj; omega⟩) (by simp)
  calc (l.filter (· < l[i])).length
    _ = ((l.take i).filter (· < l[i])).length := by rw [length_filter_split _ i, none', List.length_nil, Nat.add_zero]
    _ ≤ (l.take i).length := List.length_filter_le ..
    _ ≤ i := by simp

/-- Of a sorted list, what is greater than an element stands after it. -/
theorem length_filter_gt_of_sorted (sorted : l.Pairwise (· ≤ ·)) (h : i < l.length) :
    (l.filter (l[i] < ·)).length ≤ l.length - (i + 1) := by
  have none' : (l.take (i + 1)).filter (l[i] < ·) = [] := by
    refine List.filter_eq_nil_iff.mpr fun x mem => ?_
    obtain ⟨j, hj, rfl⟩ := List.getElem_of_mem mem
    rw [List.getElem_take]
    have within : j ≤ i := by simp at hj; omega
    simpa using sorted.rel_get_of_le (a := ⟨j, by omega⟩) (b := ⟨i, h⟩) (by simpa using within)
  calc (l.filter (l[i] < ·)).length
    _ = ((l.drop (i + 1)).filter (l[i] < ·)).length := by
      rw [length_filter_split _ (i + 1), none', List.length_nil, Nat.zero_add]
    _ ≤ (l.drop (i + 1)).length := List.length_filter_le ..
    _ = l.length - (i + 1) := by simp

/-- The median is the element in the middle of the sorted errors (R114). -/
theorem medianOf_splits {errors : List Int} (filled : errors ≠ []) : medianOf errors ∈ errors ∧
    (errors.filter (· < medianOf errors)).length ≤ (errors.length - 1) / 2 ∧
    (errors.filter (medianOf errors < ·)).length ≤ errors.length / 2 := by
  have perm := List.perm_insertionSort (· ≤ ·) errors
  have sorted : (errors.insertionSort (· ≤ ·)).Pairwise (· ≤ ·) := List.pairwise_insertionSort ..
  have positive : 0 < errors.length := List.length_pos_iff.mpr filled
  have within : (errors.length - 1) / 2 < (errors.insertionSort (· ≤ ·)).length := by
    rw [perm.length_eq]
    omega
  have middle : medianOf errors = (errors.insertionSort (· ≤ ·))[(errors.length - 1) / 2] := by
    rw [medianOf, List.getD_eq_getElem _ _ within]
  refine ⟨?_, ?_, ?_⟩
  · rw [middle]
    exact perm.mem_iff.mp (List.getElem_mem _)
  · rw [middle, ← (perm.filter _).length_eq]
    exact length_filter_lt_of_sorted sorted within
  · rw [middle, ← (perm.filter _).length_eq]
    refine (length_filter_gt_of_sorted sorted within).trans ?_
    rw [perm.length_eq]
    omega

end

/-- The trim: m ÷ 32 truncated, between its bounds (R115). -/
theorem trimOf_cases (m : Int) (n : Nat) : -((n / 64 : Nat) : Int) ≤ trimOf m n ∧ trimOf m n ≤ ((n / 64 : Nat) : Int) ∧
    ((Int.tdiv m 32).natAbs ≤ n / 64 → trimOf m n = Int.tdiv m 32) ∧
    (((n / 64 : Nat) : Int) < Int.tdiv m 32 → trimOf m n = ((n / 64 : Nat) : Int)) ∧
    (Int.tdiv m 32 < -((n / 64 : Nat) : Int) → trimOf m n = -((n / 64 : Nat) : Int)) := by
  unfold trimOf clampInt
  generalize n / 64 = bound
  split_ifs <;> omega

/-! ### The consistency check -/

section
variable {st : Station} {cfg : ConfigRecord}

theorem Station.agrees_iff (e : PeerEntry) : st.agrees e = true ↔
    ∃ x t, e.schedule = some x ∧ st.schedule.tables = some t ∧ x.fingerprint = t.fingerprint := by
  cases schedule : e.schedule <;> cases tables : st.schedule.tables <;> simp [agrees, fingerprint?, schedule, tables]

theorem Station.failsCheck_iff (k : StationNo) : st.failsCheck k = true ↔ ∀ e, st.peer k = some e → e.fresh = false ∨
    (e.state ≠ .tripped ∧ (¬ (∃ x t, e.schedule = some x ∧ st.schedule.tables = some t ∧ x.fingerprint = t.fingerprint) ∨
      (e.runMark = true ∧ (e.state = .idle ∨ e.state = .armed)))) := by
  cases entry : st.peer k with
  | none => simp [failsCheck, entry]
  | some e =>
    simp only [Option.some.injEq, forall_eq', ← agrees_iff]
    cases fresh : e.fresh with
    | false => simp [failsCheck, entry, fresh]
    | true =>
      by_cases tripped : e.state = .tripped
      · simp [failsCheck, entry, fresh, tripped]
      · simp [failsCheck, entry, fresh, tripped]

theorem Station.showsTripped_iff (k : StationNo) : st.showsTripped k = true ↔
    ∃ e, st.peer k = some e ∧ e.fresh = true ∧ e.runMark = true ∧ e.state = .tripped := by
  cases entry : st.peer k <;> simp [showsTripped, entry, and_assoc]

/-- A reason is not taken in TRIPPED (R65). -/
theorem Station.takeReason_tripped (tripped : st.ctl.mode = .tripped) (r : HoldReason) (k : StationNo) :
    st.takeReason cfg r k = st := by
  simp only [takeReason, tripped]

theorem Mode.permit_of_runGroup {m : Mode} (runGroup : m.inRunGroup = true) : m.isPermit = true := by
  cases m <;> first | rfl | cases runGroup

/-- The lowest expected peer that shows TRIPPED is the one reported, and LOST is not taken after it (R108, R109). -/
theorem Station.consistencyCheck_trips (runGroup : st.ctl.mode.inRunGroup = true) {k : StationNo} (expected : expects cfg k = true)
    (trips : st.showsTripped k = true) (lowest : ∀ j : StationNo, j < k → expects cfg j = true → st.showsTripped j = false) :
    st.consistencyCheck cfg = st.takeTrip cfg .peerTrip k := by
  have found : (expectedPeers cfg).find? st.showsTripped = some k := by
    refine find_least (expectedPeers_rising cfg) (mem_expectedPeers.mpr expected) trips fun j mem tripped below => ?_
    exact absurd tripped (by simp [lowest j below (mem_expectedPeers.mp mem)])
  have tripped := takeTrip_tripped (cfg := cfg) (Mode.permit_of_runGroup runGroup) .peerTrip k
  simp only [consistencyCheck, runGroup, if_true, found, reportReason, takeReason_tripped tripped, ite_self]

/-- With no expected peer that shows TRIPPED, LOST is reported once if one fails (R107). -/
theorem Station.consistencyCheck_noTrip (runGroup : st.ctl.mode.inRunGroup = true)
    (noTrip : ∀ k : StationNo, expects cfg k = true → st.showsTripped k = false) :
    st.consistencyCheck cfg = if (expectedPeers cfg).any st.failsCheck then st.takeReason cfg .lost (own cfg) else st := by
  have found : (expectedPeers cfg).find? st.showsTripped = none :=
    List.find?_eq_none.mpr fun k mem => by simp [noTrip k (mem_expectedPeers.mp mem)]
  simp only [consistencyCheck, runGroup, if_true, found, reportReason]

/-! ### The errors of the sync set -/

/-- Keeping, choosing and computing in turn is one choice. -/
theorem List.filterMap_chain {α β γ δ : Type} (f : α → Option β) (g : β → Option γ) (p : γ → Bool) (h : γ → δ) (l : List α) :
    (((l.filterMap f).filterMap g).filter p).map h =
      l.filterMap fun x => ((f x).bind g).bind fun y => if p y then some (h y) else none := by
  induction l with
  | nil => rfl
  | cons x rest ih =>
    cases chosen : f x with
    | none => simpa [chosen] using ih
    | some y =>
      cases kept : g y with
      | none => simpa [chosen, kept] using ih
      | some z => cases good : p z <;> simpa [chosen, kept, good] using ih

/-- The position and the age of an expected peer that is FRESH and moving, if its BEAT had the schedule mark (R111). -/
def Station.movingPeer (st : Station) (k : StationNo) : Option (PeerSchedule × Nat) :=
  (st.peer k).bind fun e => if e.fresh = true ∧ e.state.isMoving = true then e.schedule.map fun x => (x, e.age) else none

theorem Station.movingPeer_eq (k : StationNo) :
    (st.inSync k).bind (fun e => e.schedule.map fun s => (s, e.age)) = st.movingPeer k := by
  cases entry : st.peer k with
  | none => simp [inSync, movingPeer, entry]
  | some e => by_cases sync : e.fresh = true ∧ e.state.isMoving = true <;> simp [inSync, movingPeer, entry, sync]

/-- The peers of the sync set whose positions are known (R111). -/
theorem Station.seen_eq (cfg : ConfigRecord) : ((expectedPeers cfg).filterMap st.inSync).filterMap (fun e => e.schedule.map fun s => (s, e.age)) =
    (expectedPeers cfg).filterMap st.movingPeer := by
  rw [List.filterMap_filterMap]
  exact List.filterMap_congr fun k _ => movingPeer_eq k

theorem Station.syncErrors_errors (p : Position) (length : Nat) : (st.syncErrors cfg p length).1 =
    (expectedPeers cfg).filterMap fun k => (st.movingPeer k).bind fun x =>
      if (passDifference x.1.pass p.pass).natAbs ≤ 1 then some (timelineError x.1 x.2 (nominal cfg) length p) else none := by
  refine (List.filterMap_chain ..).trans (List.filterMap_congr fun k _ => ?_)
  simp only [movingPeer_eq, decide_eq_true_eq]

theorem Station.syncErrors_leftOut (p : Position) (length : Nat) : (st.syncErrors cfg p length).2 = true ↔
    ∃ k x, expects cfg k = true ∧ st.movingPeer k = some x ∧ 1 < (passDifference x.1.pass p.pass).natAbs := by
  simp only [syncErrors, seen_eq, bne_iff_ne, ne_eq, List.length_filter_eq_length_iff, decide_eq_true_eq, List.mem_filterMap,
    mem_expectedPeers]
  push Not
  constructor
  · rintro ⟨x, ⟨k, expected, moving⟩, far⟩
    exact ⟨k, x, expected, moving, far⟩
  · rintro ⟨k, x, expected, moving, far⟩
    exact ⟨x, ⟨k, expected, moving⟩, far⟩

/-! ### The group load -/

theorem groupShare_some (e : PeerEntry) : groupShare cfg (some e) =
    if e.fresh = true ∧ e.group = cfg.group.toNat ∧ e.state.inRunGroup = true then e.share else 0 := by
  simp [groupShare, and_assoc]

theorem Station.groupTotal_eq (st : Station) (cfg : ConfigRecord) :
    st.groupTotal cfg = st.peers.ownShare + ((List.finRange 24).map fun k => groupShare cfg (st.peer k)).sum := by
  have entries : st.peers.entries.toList = (List.finRange 24).map st.peer := by
    refine List.ext_getElem (by simp) fun i h1 h2 => ?_
    simp [peer]
  rw [groupTotal, entries, List.map_map]
  rfl

/-- The group sum, share by share (R119). -/
theorem Station.groupTotal_shares (st : Station) (cfg : ConfigRecord) : st.groupTotal cfg =
    st.peers.ownShare + ((List.finRange 24).map fun k => match st.peer k with
      | none => 0
      | some e => if e.fresh = true ∧ e.group = cfg.group.toNat ∧ e.state.inRunGroup = true then e.share else 0).sum := by
  refine (groupTotal_eq st cfg).trans (congrArg (fun l => st.peers.ownShare + List.sum l) (List.map_congr_left fun k _ => ?_))
  cases entry : st.peer k with
  | none => rfl
  | some e => exact groupShare_some e

end

/-- Settles O40: the consistency check, the errors and the trim, the group load, and what the trim and the median are. -/
theorem beatInstantChecks : Obligations.BeatInstantChecks := by
  unfold Obligations.BeatInstantChecks
  refine ⟨fun st cfg => ⟨fun outside => ?_, fun runGroup => ⟨fun k expected trips lowest => ?_, fun noTrip => ?_⟩⟩,
    fun st cfg p length => ⟨?_, ?_⟩, fun st cfg => ⟨fun still => ?_, fun p t moving position tables => ?_⟩,
    fun st cfg => ?_, trimOf_cases, fun errors filled => medianOf_splits filled⟩
  · simp [Station.consistencyCheck, outside]
  · refine Station.consistencyCheck_trips runGroup expected ((Station.showsTripped_iff k).mpr trips) fun j below expects' => ?_
    simpa using mt (Station.showsTripped_iff j).mp (lowest j below expects')
  · have checked := Station.consistencyCheck_noTrip runGroup (cfg := cfg) (st := st) fun k expected => by
      simpa using mt (Station.showsTripped_iff k).mp (noTrip k expected)
    rw [checked]
    refine ⟨fun ⟨k, expected, fails⟩ => if_pos ?_, fun pass => if_neg ?_⟩
    · exact List.any_eq_true.mpr ⟨k, mem_expectedPeers.mpr expected, (Station.failsCheck_iff k).mpr fails⟩
    · intro anyFails
      obtain ⟨k, mem, fails⟩ := List.any_eq_true.mp anyFails
      exact pass k (mem_expectedPeers.mp mem) ((Station.failsCheck_iff k).mp fails)
  · exact Station.syncErrors_errors p length
  · exact Station.syncErrors_leftOut p length
  · simp [Station.trimPart, still, Station.setIncrement]
  · have trimmed : st.trimPart cfg = st.makeTrim cfg p t.passLength := by simp only [Station.trimPart, moving, if_true, position, tables]
    rw [trimmed]
    refine ⟨fun slips => if_pos slips, fun noSlip => if_neg noSlip⟩
  · dsimp only
    refine ⟨fun outside => ?_, fun runGroup exceeds => ?_, fun runGroup within => ?_⟩
    · simp [Station.groupCheck, outside]
    · simp only [Station.groupCheck, runGroup, if_true, Station.groupTotal_shares]
      exact if_pos exceeds
    · simp only [Station.groupCheck, runGroup, if_true, Station.groupTotal_shares]
      exact if_neg within

end Sys2Proof.Machine
end
section
/-! IDLE POINTS, ATTEMPTS, AND THE ORDER OF FRAMES (R129 to R136). -/

namespace Sys2Proof.Machine

section
variable {st b : Station} {cfg : ConfigRecord}

theorem Changes.runs (h : Changes cfg st b) (runs : st.RunsIn cfg) : b.RunsIn cfg := by
  have same := Changes.outside h
  simp only [Station.outside, Prod.mk.injEq] at same
  obtain ⟨power, resetLine, -, -, config, -⟩ := same
  exact ⟨by rw [Station.running, power, resetLine]; exact runs.1, config.trans runs.2⟩

/-! ### Frames -/

theorem exec_frameCommand {s : State} (runs : s.station.RunsIn cfg) (f : RigFrame) (mark : Bool) :
    exec (frameCommand f mark) s =
      .next (s.withStation (s.station.receive cfg { number := f.sender, bySelf := mark } f.body)) := by
  obtain ⟨sender, body⟩ := f
  cases body <;> exact State.act_configured runs _

/-- The station once its own frame is no longer to be taken, and no own abort is on the line (R131, R136). -/
def Station.passed (st : Station) : Station := { st with link := { st.link with ownEnded := none, ownAborted := false } }

theorem Station.clearOwn_some {g : RigFrame} (ended : st.link.ownEnded = some g) :
    st.abortOver.takeOwnFrame cfg = st.passed.deliver cfg g true :=
  takeOwnFrame_some _ cfg g ended

theorem Station.clearOwn_none (ended : st.link.ownEnded = none) :
    st.abortOver.takeOwnFrame cfg = { st with link := { st.link with ownAborted := false } } :=
  takeOwnFrame_none _ cfg ended

/-- Once the own frame is taken and the own abort is over, there is nothing of the kind to take again. -/
theorem Station.clearOwn_again (f : RigFrame) (mark : Bool) :
    ((st.passed.deliver cfg f mark).abortOver.takeOwnFrame cfg) = st.passed.deliver cfg f mark := by
  obtain ⟨-, ended, aborted, -⟩ := deliver_attempt st.passed cfg f mark
  rw [abortOver_self _ aborted, takeOwnFrame_none _ cfg ended]

theorem Station.passed_runs (runs : st.RunsIn cfg) (f : RigFrame) (mark : Bool) : (st.passed.deliver cfg f mark).RunsIn cfg :=
  Changes.runs (deliver_changes st.passed cfg f mark) runs

/-- A frame with the mark clear is delivered after what the station has of its own (R135). -/
theorem Station.receive_clearMark (number : StationNo) (body : FrameBody) :
    st.receive cfg { number := number, bySelf := false } body =
      (st.abortOver.takeOwnFrame cfg).deliver cfg { sender := number, body := body } false := by
  simp [receive]

/-- The mark counts only with the very frame that this station has completed (R135). -/
theorem Station.receive_otherMark {number : StationNo} {body : FrameBody}
    (other : st.link.ownEnded ≠ some { sender := number, body := body }) (mark : Bool) :
    st.receive cfg { number := number, bySelf := mark } body =
      (st.abortOver.takeOwnFrame cfg).deliver cfg { sender := number, body := body } false := by
  simp [receive, other]

end

/-- Settles O44: the own frame before another, and the mark with the own frame alone. -/
theorem framesAreTakenInOrder : Obligations.FramesAreTakenInOrder := by
  unfold Obligations.FramesAreTakenInOrder
  intro s cfg f runs
  dsimp only
  refine ⟨fun g ended => ?_, fun ended => ?_, fun other => ?_, fun mark => ?_⟩
  · have runs' : (s.withStation (s.station.passed.deliver cfg g true)).station.RunsIn cfg := Station.passed_runs runs g true
    refine (exec_frameCommand runs f false).trans (Eq.trans ?_ (exec_frameCommand runs' f false).symm)
    rw [Station.receive_clearMark, Station.receive_clearMark, Station.clearOwn_some ended, State.withStation_station,
      Station.clearOwn_again]
    rfl
  · rw [exec_frameCommand runs, Station.receive_own _ _ _ _ rfl ended]
  · rw [exec_frameCommand runs, exec_frameCommand runs, Station.receive_otherMark other, Station.receive_otherMark other]
  · have runs' : (s.withStation ({ s.station with link := { s.station.link with ownAborted := false } })).station.RunsIn cfg := runs
    rw [exec_frameCommand runs]
    exact (exec_frameCommand runs' f mark).symm

/-! ### Idle points -/

section
variable {st : Station} {cfg : ConfigRecord}

theorem exec_idlePoint {s : State} (runs : s.station.RunsIn cfg) :
    exec .idlePoint s = .next (s.withStation (s.station.idlePoint cfg)) := State.act_configured runs _

/-- An idle point with nothing of its own to take and no attempt under way begins one (R129). -/
theorem Station.idlePoint_begins (ended : st.link.ownEnded = none) (attempt : st.link.attempt = none) :
    st.idlePoint cfg = ({ st with link := { st.link with ownAborted := false } } : Station).beginAttempt cfg := by
  simp only [idlePoint, clearOwn_none ended, attempt]

/-- The flags of a BEAT: the hold flag and the schedule mark (R198). -/
theorem Station.beatNow_tables {t : Tables} {p : Position} (tables : st.schedule.tables = some t)
    (position : st.engine.position = some p) : st.beatNow cfg =
      { state := codeByte st.ctl.mode.code, group := cfg.group, flags := if holdFlag st.ctl.reasons then 3#8 else 2#8
        fingerprint := t.fingerprint, pass := BitVec.ofNat 16 p.pass, whole := BitVec.ofNat 32 p.whole
        fraction := BitVec.ofNat 16 p.fraction, reasons := st.ctl.reasons.setWidth 16
        share := BitVec.ofInt 24 st.peers.ownShare } := by
  simp only [beatNow, tables, position]

theorem Station.beatNow_bare (bare : st.schedule.tables = none ∨ st.engine.position = none) : st.beatNow cfg =
      { state := codeByte st.ctl.mode.code, group := cfg.group, flags := if holdFlag st.ctl.reasons then 1#8 else 0#8
        fingerprint := 0, pass := 0, whole := 0, fraction := 0, reasons := st.ctl.reasons.setWidth 16
        share := BitVec.ofInt 24 st.peers.ownShare } := by
  cases tables : st.schedule.tables with
  | none => simp only [beatNow, tables]
  | some t =>
    have position : st.engine.position = none := bare.resolve_left (by simp [tables])
    simp only [beatNow, tables, position]

theorem Station.scheduled_or_bare (st : Station) : (st.schedule.tables = none ∨ st.engine.position = none) ∨
    ∃ t p, st.schedule.tables = some t ∧ st.engine.position = some p := by
  cases tables : st.schedule.tables <;> cases position : st.engine.position <;> simp

/-- The bits of the flags byte. -/
theorem flags_bits (held scheduled : Bool) : let flags : Byte := if held then (if scheduled then 3#8 else 1#8) else (if scheduled then 2#8 else 0#8)
    flags.getLsbD 0 = held ∧ flags.getLsbD 1 = scheduled ∧ ∀ i, 2 ≤ i → flags.getLsbD i = false := by
  have low (n : Nat) (small : n < 4) (i : Nat) (high : 2 ≤ i) : (BitVec.ofNat 8 n).getLsbD i = false := by
    rw [BitVec.getLsbD_ofNat, Nat.testBit_lt_two_pow (small.trans_le (Nat.pow_le_pow_right (n := 2) (by decide) high)), Bool.and_false]
  cases held <;> cases scheduled
  · exact ⟨rfl, rfl, low 0 (by decide)⟩
  · exact ⟨rfl, rfl, low 2 (by decide)⟩
  · exact ⟨rfl, rfl, low 1 (by decide)⟩
  · exact ⟨rfl, rfl, low 3 (by decide)⟩

end

/-- Settles O41: the lowest class first, the own frame before it, and the fields of a BEAT. -/
theorem idlePointLatchesTheLowestClass : Obligations.IdlePointLatchesTheLowestClass := by
  unfold Obligations.IdlePointLatchesTheLowestClass
  refine ⟨fun s cfg runs => ⟨fun ended attempt => ?begins, fun f ended => ?own⟩, fun st cfg => ?beat, rfl⟩
  case begins =>
    have begins := (exec_idlePoint runs).trans
      (congrArg (fun x => Host.Outcome.next (s.withStation x)) (Station.idlePoint_begins (cfg := cfg) ended attempt))
    refine ⟨fun f trip => begins.trans ?_, fun f noTrip control => begins.trans ?_, fun noTrip noControl beat => begins.trans ?_,
      fun noTrip noControl noBeat => begins.trans ?_⟩
    · simp only [Station.beginAttempt, trip]
      rfl
    · simp only [Station.beginAttempt, noTrip, control]
      rfl
    · simp only [Station.beginAttempt, noTrip, noControl, beat]
      rfl
    · simp only [Station.beginAttempt, noTrip, noControl, noBeat]
  case own =>
    have runs' : (s.withStation (s.station.passed.deliver cfg f true)).station.RunsIn cfg := Station.passed_runs runs f true
    refine (exec_idlePoint runs).trans (Eq.trans ?_ (exec_idlePoint runs').symm)
    simp only [Station.idlePoint, Station.clearOwn_some ended, State.withStation_station, Station.clearOwn_again,
      State.withStation_withStation]
  case beat =>
    have held : holdFlag st.ctl.reasons = decide (st.ctl.reasons ≠ 0#10) := by simp [holdFlag, bne, beq_eq_decide]
    rcases Station.scheduled_or_bare st with bare | ⟨t, p, tables, position⟩
    · obtain ⟨hold, scheduled, high⟩ := flags_bits (holdFlag st.ctl.reasons) false
      rw [Station.beatNow_bare bare]
      refine ⟨rfl, rfl, rfl, rfl, hold.trans held, high, fun t p tables position => ?_, fun _ => ⟨scheduled, rfl, rfl, rfl, rfl⟩⟩
      rcases bare with absent | absent
      · cases absent.symm.trans tables
      · cases absent.symm.trans position
    · obtain ⟨hold, scheduled, high⟩ := flags_bits (holdFlag st.ctl.reasons) true
      rw [Station.beatNow_tables tables position]
      refine ⟨rfl, rfl, rfl, rfl, hold.trans held, high, fun t' p' tables' position' => ?_, fun bare => ?_⟩
      · cases tables.symm.trans tables'
        cases position.symm.trans position'
        exact ⟨scheduled, rfl, rfl, rfl, rfl⟩
      · rcases bare with absent | absent
        · cases absent.symm.trans tables
        · cases absent.symm.trans position

/-! ### The outcomes of an attempt -/

section
variable {st : Station} {cfg : ConfigRecord}

theorem Station.withAttempt_some {a : Attempt} (attempt : st.link.attempt = some a) (f : Attempt → Station) :
    st.withAttempt f = f a := by
  simp only [withAttempt, attempt]

theorem afterCompletion_eq (f : Option SlotFrame) : afterCompletion f = f.bind fun x => if x.latched then none else some x := by
  cases f <;> rfl

end

/-- Settles O42: lost, aborted below and at the limit, and completed from each slot. -/
theorem attemptOutcomes : Obligations.AttemptOutcomes := by
  unfold Obligations.AttemptOutcomes
  intro s cfg a runs attempt
  dsimp only
  have outcome {f : Attempt → Station} {x : Station} (h : f a = x) : Host.Outcome.next (s.withStation (s.station.withAttempt f)) =
      (.next (s.withStation x) : Host.Outcome State Fault Refusal) := by
    rw [Station.withAttempt_some attempt, h]
  refine ⟨(State.act_configured runs _).trans (outcome rfl), fun below => ?_, fun limit => ⟨?_, ?_⟩, fun slot => ?_, fun slot => ?_,
    fun slot => ?_⟩
  · refine (State.act_configured runs _).trans (outcome ?_)
    exact if_neg (show ¬ 16 ≤ s.station.link.aborts + 1 by omega)
  · refine (State.act_configured runs _).trans (outcome ?_)
    exact if_pos (show 16 ≤ s.station.link.aborts + 1 by omega)
  · refine (State.act_configured runs _).trans (outcome ?_)
    exact if_pos (show 16 ≤ s.station.link.aborts + 1 by omega)
  · refine (State.act_configured runs _).trans (outcome ?_)
    simp only [Station.completeAttempt, slot, afterCompletion_eq]
  · refine (State.act_configured runs _).trans (outcome ?_)
    simp only [Station.completeAttempt, slot, afterCompletion_eq]
  · refine (State.act_configured runs _).trans (outcome ?_)
    simp only [Station.completeAttempt, slot]

/-! ### Frames that fail a check -/

theorem frameLength_unknown {kind : Byte} (unknown : kind.toNat = 0 ∨ 5 < kind.toNat) : frameLength kind = none := by
  unfold frameLength
  split <;> first | rfl | (rename_i known; omega)

/-- Bytes that fail a check end as a frame that is bad (R133). -/
theorem exec_frameDropped_invalid {s : State} {cfg : ConfigRecord} (runs : s.station.RunsIn cfg) {bytes : List Byte}
    {otherDriving : Bool} (invalid : readFrame bytes = none) :
    exec (.frameDropped { bytes := bytes, otherDriving := otherDriving }) s =
      .next (s.withStation (s.station.badFrameEnds otherDriving)) := by
  refine (State.act_configured runs _).trans ?_
  simp only [invalid]

/-- The four checks on the bytes of a frame of a known kind (R133). -/
theorem readFrame_eq_none {key kind : Byte} {rest : List Byte} {n : Nat} (known : frameLength kind = some n) :
    readFrame (key :: kind :: rest) = none ↔ rest.length + 2 < n ∨ key.toNat / 32 ≠ classOfKind kind ∨ 24 ≤ key.toNat % 32 ∨
      (crc16 crcInitLink ((key :: kind :: rest).take (n - 2))).toNat ≠ ofBe (((key :: kind :: rest).take n).drop (n - 2)) := by
  simp only [readFrame, known, dite_eq_right_iff, reduceCtorEq, imp_false, not_and_or, Nat.not_le, Nat.not_lt, List.length_cons]

/-- Settles O43: the drop, the own abort that is none, and the checks by bytes. -/
theorem badFramesAreDropped : Obligations.BadFramesAreDropped := by
  unfold Obligations.BadFramesAreDropped
  refine ⟨fun s cfg bytes otherDriving runs => ?_, by decide, fun key kind rest n known => ?_, fun key kind rest unknown => ?_,
    rfl, fun key => rfl⟩
  · refine ⟨fun invalid counted => ?_, fun invalid aborted alone => ?_, fun f valid => ?_⟩
    · rw [exec_frameDropped_invalid runs invalid]
      rcases s.station.badFrameEnds_cases otherDriving with ⟨aborted, alone, -⟩ | ⟨-, dropped⟩
      · simp [aborted, alone] at counted
      · rw [dropped]
        rfl
    · rw [exec_frameDropped_invalid runs invalid, Station.badFrameEnds, if_pos ⟨aborted, alone⟩]
      rfl
    · rw [exec_frameCommand runs]
      refine (State.act_configured runs _).trans ?_
      simp only [valid]
  · rw [readFrame_eq_none known]
    rfl
  · simp only [readFrame, frameLength_unknown unknown]

end Sys2Proof.Machine
end
section
/-! THE FIVE FRAMES (R70, R76, R77, R86, R87, R93, R99, R101, R120). -/

namespace Sys2Proof.Machine

section
variable {st : Station} {cfg : ConfigRecord}

/-! ### How a frame arrives -/

/-- A frame with the mark clear that finds nothing of the station's own is delivered as it is (R135). -/
theorem exec_frame_clear {s : State} (runs : s.station.RunsIn cfg) (ended : s.station.link.ownEnded = none)
    (aborted : s.station.link.ownAborted = false) (f : RigFrame) :
    exec (frameCommand f false) s = .next (s.withStation (s.station.deliver cfg f false)) := by
  rw [exec_frameCommand runs, Station.receive_clear _ _ _ _ ended aborted]

/-- The station's own frame is delivered with the mark, and is then no longer to be taken (R136). -/
theorem exec_frame_own {s : State} (runs : s.station.RunsIn cfg) (aborted : s.station.link.ownAborted = false) {f : RigFrame}
    (ended : s.station.link.ownEnded = some f) : exec (frameCommand f true) s = .next (s.withStation
      (({ s.station with link := { s.station.link with ownEnded := none } } : Station).deliver cfg f true)) := by
  rw [exec_frameCommand runs, Station.receive_own _ _ _ _ rfl ended, ← aborted]

theorem isClash_other {k : StationNo} (other : k ≠ own cfg) (body : FrameBody) (mark : Bool) :
    isClash cfg { sender := k, body := body } mark = false := by
  simp [isClash, other]

theorem isClash_marked (f : RigFrame) : isClash cfg f true = false := by simp [isClash]

theorem isClash_own (body : FrameBody) : isClash cfg { sender := own cfg, body := body } false = true := by simp [isClash]

/-- The station's own frames are recorded in no entry (R101). -/
theorem Station.recordControl_own (seen : ControlSeen) : st.recordControl cfg (own cfg) seen = st := if_pos rfl

/-! ### BEAT -/

theorem ofBeatCode_tripped (c : BitVec 8) : Mode.ofBeatCode c = .tripped ↔ c.toNat = 11 := by
  unfold Mode.ofBeatCode
  split <;> simp_all

theorem beatSchedule_eq (f : BeatFields) : beatSchedule f =
    if (if f.state.toNat = 0 ∨ 11 < f.state.toNat then false else f.flags.getLsbD 1) = true then
      some { fingerprint := f.fingerprint, pass := f.pass.toNat, whole := f.whole.toNat, fraction := f.fraction.toNat }
    else none := by
  unfold beatSchedule
  by_cases foreign : f.state.toNat = 0 ∨ 11 < f.state.toNat <;> cases mark : f.flags.getLsbD 1 <;> simp [foreign]

theorem Station.joins_eq (k : StationNo) : st.joins k = (st.peer k).all fun e => !e.fresh := by
  cases entry : st.peer k <;> simp [joins, entry]

/-- What entering a BEAT does (R99). -/
theorem Station.enterBeat_eq (k : StationNo) (f : BeatFields) : st.enterBeat k f = { st with
    peers := { st.peers with entries := st.peers.entries.set k (some
      (entryOfBeat f st.ctl.mode.inRunGroup ((st.peer k).bind (·.lastControl)))) }
    events := if st.joins k then st.events.raise .peerJoined else st.events } := by
  unfold enterBeat
  simp only
  split <;> rfl

theorem Station.testHoldFlag_eq (k : StationNo) (f : BeatFields) : st.testHoldFlag cfg k f =
    if expects cfg k = true ∧ f.flags.getLsbD 0 = true ∧ (st.ctl.mode = .countdown ∨ st.ctl.mode = .rampIn ∨ st.ctl.mode = .playing)
    then st.takeReason cfg .peer k else st := rfl

theorem Station.testTripped_eq (k : StationNo) (f : BeatFields) : st.testTripped cfg k f =
    if expects cfg k = true ∧ f.state.toNat = 11 ∧ st.ctl.mode.inRunGroup = true then st.takeTrip cfg .peerTrip k else st := by
  simp only [testTripped, ofBeatCode_tripped]

end

/-- Settles O45: the entry, the two tests on it, and the own BEAT. -/
theorem beatIsEntered : Obligations.BeatIsEntered := by
  unfold Obligations.BeatIsEntered
  intro s cfg k f runs aborted
  dsimp only
  refine ⟨fun ended other => ?_, fun ended => ?_⟩
  · have heard : exec (.beatFrame ⟨k, false⟩ f) s =
        .next (s.withStation (((s.station.enterBeat k f).testHoldFlag cfg k f).testTripped cfg k f)) := by
      refine (exec_frame_clear runs ended aborted { sender := k, body := .beat f }).trans ?_
      simp only [Station.deliver, isClash_other other, Bool.false_eq_true, if_false, Station.receiveBeat, if_neg other]
    have group : ((s.station.enterBeat k f).takeReason cfg .peer k).ctl.mode.inRunGroup = s.station.ctl.mode.inRunGroup := by
      rw [Station.takeReason_runGroup, Station.enterBeat_eq]
    rw [heard, Station.testHoldFlag_eq, Station.testTripped_eq]
    have entered := Station.enterBeat_eq (st := s.station) k f
    rw [entryOfBeat, beatSchedule_eq, Station.joins_eq] at entered
    rw [← entered]
    have ctl : (s.station.enterBeat k f).ctl = s.station.ctl := by rw [Station.enterBeat_eq]
    refine ⟨fun noFlag noTrip => ?_, fun flagged noTrip => ?_, fun noFlag tripped => ?_, fun flagged tripped => ?_⟩
    · rw [if_neg (c := expects cfg k = true ∧ f.flags.getLsbD 0 = true ∧ _) (by rwa [ctl]), if_neg (by rwa [ctl])]
    · rw [if_pos (c := expects cfg k = true ∧ f.flags.getLsbD 0 = true ∧ _) (by rwa [ctl]), if_neg (by rwa [group])]
    · rw [if_neg (c := expects cfg k = true ∧ f.flags.getLsbD 0 = true ∧ _) (by rwa [ctl]), if_pos (by rwa [ctl])]
    · rw [if_pos (c := expects cfg k = true ∧ f.flags.getLsbD 0 = true ∧ _) (by rwa [ctl]), if_pos (by rwa [group])]
  · refine (exec_frame_own runs aborted ended).trans ?_
    simp only [Station.deliver, isClash_marked, Bool.false_eq_true, if_false, Station.receiveBeat, if_true]

section
variable {st : Station} {cfg : ConfigRecord}

/-! ### GO -/

/-- A peer's GO heard: an own GO leaves CONTROL (R77). -/
def Station.goHeard (st : Station) : Station :=
  { st with link := { st.link with controlSlot := if isGo st.link.controlSlot then none else st.link.controlSlot } }

/-- A GO taken (R76, R107). -/
def Station.goTaken (st : Station) (cfg : ConfigRecord) (pass : BitVec 32) (whole : BitVec 48) : Station := { st with
  ctl := { st.ctl with mode := .countdown, permit := true, countdown := some 64 }
  engine := { st.engine with
    position := some { pass := pass.toNat, whole := whole.toNat, fraction := 0, park := .none }, fadeEnd := none
    regs := st.engine.regs.map fun r => { r with fade := 0, increment := nominal cfg } }
  peers := { st.peers with entries := st.peers.entries.map fun e => e.map fun y => { y with runMark := false } }
  events := st.events.raise .state }

theorem Station.goTaken_eq (pass : BitVec 32) (whole : BitVec 48) :
    (st.zeroFade.clearRunMarks).beginCountdown cfg pass.toNat whole.toNat = st.goTaken cfg pass whole := by
  rw [beginCountdown, enterMode_eq]
  simp only [zeroFade, clearRunMarks, setPosition, goTaken, Mode.isMoving, Mode.isPermit, Bool.false_eq_true, if_false, if_true,
    Option.map_map]
  rfl

theorem Station.receiveGo_peer (fp : BitVec 16) (pass : BitVec 32) (whole : BitVec 48) :
    st.receiveGo cfg false fp pass whole =
      if st.ctl.mode = .armed ∧ st.matchesSchedule fp pass whole = true then st.goHeard.goTaken cfg pass whole
      else st.goHeard := by
  have heard : (if false = false ∧ isGo st.link.controlSlot = true then st.emptyControl else st) = st.goHeard := by
    unfold goHeard
    cases isGo st.link.controlSlot <;> rfl
  unfold receiveGo
  rw [heard]
  simp only [goTaken_eq]
  rfl

theorem Station.receiveGo_own (fp : BitVec 16) (pass : BitVec 32) (whole : BitVec 48) :
    st.receiveGo cfg true fp pass whole =
      if st.ctl.mode = .armed ∧ st.matchesSchedule fp pass whole = true then st.goTaken cfg pass whole else st := by
  unfold receiveGo
  simp only [Bool.true_eq_false, false_and, if_false, goTaken_eq]

/-! ### RESUME -/

/-- A RESUME taken (R86). -/
def Station.resumeTaken (st : Station) (cfg : ConfigRecord) (pass : BitVec 32) (whole : BitVec 48) : Station := { st with
  ctl := { st.ctl with mode := .countdown, permit := true, countdown := some 64, reasons := 0, holdRecord := none }
  engine := { st.engine with
    position := some { pass := pass.toNat, whole := whole.toNat, fraction := 0, park := .none }, fadeEnd := none
    regs := st.engine.regs.map fun r => { r with increment := nominal cfg } }
  events := st.events.raise .state }

/-- A RESUME answered with a HOLD (R87). -/
def Station.resumeAnswered (st : Station) : Station := { st with link := { st.link with
  controlSlot := some { body := .hold (st.ctl.reasons.setWidth 16), latched := false } } }

theorem Station.receiveResume_eq (fp : BitVec 16) (pass : BitVec 32) (whole : BitVec 48) :
    st.receiveResume cfg fp pass whole =
      if st.ctl.mode = .held ∧ st.matchesSchedule fp pass whole = true then
        if st.ctl.reasons &&& 0b1111111000#10 = 0#10 then st.resumeTaken cfg pass whole else st.resumeAnswered
      else st := by
  unfold receiveResume
  refine if_congr Iff.rfl ?_ rfl
  refine ite_congr rfl (fun unlatched => ?_) fun _ => rfl
  have left : withoutResumable st.ctl.reasons = 0 := unlatched
  rw [beginCountdown, enterMode_eq]
  simp only [setPosition, resumeTaken, Mode.isMoving, Mode.isPermit, Bool.false_eq_true, if_false, if_true, left]

/-! ### The own frames delivered -/

theorem Station.deliver_ownGo (fp : BitVec 16) (pass : BitVec 32) (whole : BitVec 48) :
    st.deliver cfg { sender := own cfg, body := .go fp pass whole } true =
      if st.ctl.mode = .armed ∧ st.matchesSchedule fp pass whole = true then st.goTaken cfg pass whole else st := by
  simp only [deliver, isClash_marked, Bool.false_eq_true, if_false, receiveGo_own, recordControl_own]

theorem Station.deliver_ownResume (fp : BitVec 16) (pass : BitVec 32) (whole : BitVec 48) :
    st.deliver cfg { sender := own cfg, body := .resume fp pass whole } true =
      if st.ctl.mode = .held ∧ st.matchesSchedule fp pass whole = true then
        if st.ctl.reasons &&& 0b1111111000#10 = 0#10 then st.resumeTaken cfg pass whole else st.resumeAnswered
      else st := by
  simp only [deliver, isClash_marked, Bool.false_eq_true, if_false, receiveResume_eq, recordControl_own]

end

/-- Settles O46: the GO of a peer and the own one. -/
theorem goFrameDecides : Obligations.GoFrameDecides := by
  unfold Obligations.GoFrameDecides
  refine ⟨fun s cfg k fp pass whole runs aborted => ?_, fun st fp pass whole => ?_⟩
  · dsimp only
    refine ⟨fun other ended => ?_, fun ended => ?_⟩
    · have heard := exec_frame_clear runs ended aborted { sender := k, body := .go fp pass whole }
      simp only [Station.deliver, isClash_other other, Bool.false_eq_true, if_false, Station.receiveGo_peer] at heard
      exact ⟨fun taken => heard.trans (by rw [if_pos taken]; rfl), fun passes => heard.trans (by rw [if_neg passes]; rfl)⟩
    · have heard := exec_frame_own runs aborted ended
      rw [Station.deliver_ownGo] at heard
      exact ⟨fun taken => heard.trans (congrArg _ (congrArg _ (if_pos taken))),
        fun passes => heard.trans (congrArg _ (congrArg _ (if_neg passes)))⟩
  · exact Station.matchesSchedule_iff fp pass whole

/-- Settles O47: the HOLD of a peer in each state, and the own one. -/
theorem holdFrameDecides : Obligations.HoldFrameDecides := by
  unfold Obligations.HoldFrameDecides
  intro s cfg k reasons runs aborted
  dsimp only
  refine ⟨fun other ended => ?_, fun ended => ?_⟩
  · have heard := exec_frame_clear runs ended aborted { sender := k, body := .hold reasons }
    simp only [Station.deliver, isClash_other other, Bool.false_eq_true, if_false, Station.receiveHold, if_neg other] at heard
    refine ⟨fun takes => heard.trans ?_, fun passes => heard.trans ?_⟩
    · rcases takes with mode | mode | mode | mode | mode | mode <;> simp only [mode]
    · cases mode : s.station.ctl.mode <;> simp [mode] at passes <;> rfl
  · refine (exec_frame_own runs aborted ended).trans ?_
    simp only [Station.deliver, isClash_marked, Bool.false_eq_true, if_false, Station.receiveHold, if_true,
      Station.recordControl_own]

/-- Settles O48: the RESUME of a peer and the own one. -/
theorem resumeFrameDecides : Obligations.ResumeFrameDecides := by
  unfold Obligations.ResumeFrameDecides
  intro s cfg k fp pass whole runs aborted
  dsimp only
  refine ⟨fun other ended => ?_, fun ended => ?_⟩
  · have heard := exec_frame_clear runs ended aborted { sender := k, body := .resume fp pass whole }
    simp only [Station.deliver, isClash_other other, Bool.false_eq_true, if_false, Station.receiveResume_eq] at heard
    exact ⟨fun meets unlatched => heard.trans (by rw [if_pos meets, if_pos unlatched]; rfl),
      fun meets latched => heard.trans (by rw [if_pos meets, if_neg latched]; rfl),
      fun passes => heard.trans (by rw [if_neg passes])⟩
  · have heard := exec_frame_own runs aborted ended
    rw [Station.deliver_ownResume] at heard
    exact ⟨fun meets unlatched => heard.trans (congrArg _ (congrArg _ ((if_pos meets).trans (if_pos unlatched)))),
      fun meets latched => heard.trans (congrArg _ (congrArg _ ((if_pos meets).trans (if_neg latched)))),
      fun passes => heard.trans (congrArg _ (congrArg _ (if_neg passes)))⟩

/-- Settles O49: the TRIP of another station and the own one, and what a record is. -/
theorem tripFrameDecides : Obligations.TripFrameDecides := by
  unfold Obligations.TripFrameDecides
  refine ⟨fun s cfg k cause runs aborted => ⟨fun other ended => ⟨?_, fun permit => ?_, fun noPermit => ?_⟩, fun ended => ?_⟩,
    fun st cfg k seen => ⟨fun absent => ?_, fun e other entry => ?_⟩⟩
  · refine (exec_frame_clear runs ended aborted { sender := k, body := .trip cause }).trans ?_
    simp only [Station.deliver, isClash_other other, Bool.false_eq_true, if_false, Station.receiveTrip]
  · exact Station.takeTrip_tripped permit ..
  · exact Station.takeTrip_noPermit noPermit ..
  · refine (exec_frame_own runs aborted ended).trans ?_
    simp only [Station.deliver, isClash_marked, Bool.false_eq_true, if_false, if_true, Station.receiveTrip,
      Station.recordControl_own]
  · rcases absent with rfl | absent
    · exact Station.recordControl_own seen
    · simp only [Station.recordControl, absent, ite_self]
  · simp only [Station.recordControl, if_neg other, entry, Station.setPeer]

/-! ### A clash -/

section
variable {st : Station} {cfg : ConfigRecord}

/-- The station once a clash is recorded (R120). -/
def Station.clashNoted (st : Station) : Station :=
  { st with ctl := { st.ctl with clash := true }, events := st.events.raise .clash }

/-- The station once a clash is reported: in the run group LINK is taken (R120). -/
def Station.clashed (st : Station) (cfg : ConfigRecord) : Station :=
  if st.ctl.mode.inRunGroup then st.clashNoted.takeReason cfg .link (own cfg) else st.clashNoted

theorem Station.clashed_runGroup : (st.clashed cfg).ctl.mode.inRunGroup = st.ctl.mode.inRunGroup := by
  unfold clashed
  split
  · exact takeReason_runGroup st.clashNoted cfg ..
  · rfl

/-- A clash leaves ARMED as it is, and enters it from no other state. -/
theorem Station.clashed_armed : (st.clashed cfg).ctl.mode = .armed ↔ st.ctl.mode = .armed := by
  cases runGroup : st.ctl.mode.inRunGroup with
  | false => rw [clashed, runGroup, if_neg Bool.false_ne_true, clashNoted]
  | true =>
    have after := (clashed_runGroup (st := st) (cfg := cfg)).trans runGroup
    constructor <;> intro armed <;> simp [armed, Mode.inRunGroup] at after runGroup

theorem Station.clashed_schedule : (st.clashed cfg).schedule = st.schedule := by
  unfold clashed
  split
  · exact (takeReason_kept st.clashNoted cfg ..).2.2.1
  · rfl

theorem Station.clashed_matches (fp : BitVec 16) (pass : BitVec 32) (whole : BitVec 48) :
    (st.clashed cfg).matchesSchedule fp pass whole = st.matchesSchedule fp pass whole := by
  rw [matchesSchedule, matchesSchedule, fingerprint?, fingerprint?, legal, legal, clashed_schedule]

/-- In HELD the reason LINK of the clash stands latched (R64, R120). -/
theorem Station.clashed_latched (held : (st.clashed cfg).ctl.mode = .held) : (st.clashed cfg).ctl.reasons.getLsbD 9 = true := by
  have runGroup : st.ctl.mode.inRunGroup = true := by
    rw [← clashed_runGroup (cfg := cfg), held]
    rfl
  rw [clashed, if_pos runGroup, takeReason_reasons (st := st.clashNoted) runGroup, BitVec.getLsbD_or,
    show HoldReason.link.bit.getLsbD 9 = true from rfl, Bool.or_true]

theorem latched_of_link {reasons : ReasonSet} (link : reasons.getLsbD 9 = true) : reasons &&& 0b1111111000#10 ≠ 0#10 := fun empty => by
  have bit : (reasons &&& 0b1111111000#10).getLsbD 9 = false := by
    rw [empty]
    rfl
  rw [BitVec.getLsbD_and, link] at bit
  exact absurd bit (by decide)

/-- A clash delivered is reported first (R120). -/
theorem Station.reportClash_eq : st.reportClash cfg = st.clashed cfg := rfl

end

/-- Settles O50: the clash, and each kind of frame after it. -/
theorem clashIsReported : Obligations.ClashIsReported := by
  unfold Obligations.ClashIsReported
  intro s cfg runs ended aborted
  dsimp only
  have clash {body : FrameBody} {x : Station} (taken : s.station.deliver cfg { sender := own cfg, body := body } false = x) :
      exec (frameCommand { sender := own cfg, body := body } false) s = .next (s.withStation x) :=
    taken ▸ exec_frame_clear runs ended aborted { sender := own cfg, body := body }
  refine ⟨fun reasons => ?_, fun f => ?_, fun cause => ?_, fun fp pass whole => ⟨fun passes => ?_, fun starts => ?_⟩,
    fun fp pass whole => ⟨fun answers => ⟨?_, ?_⟩, fun passes => ?_⟩⟩
  · refine clash (body := .hold reasons) ?_
    simp only [Station.deliver, isClash_own, if_true, Station.reportClash_eq, Station.receiveHold, Station.recordControl_own]
    rfl
  · refine clash (body := .beat f) ?_
    simp only [Station.deliver, isClash_own, if_true, Station.reportClash_eq, Station.receiveBeat]
    rfl
  · refine clash (body := .trip cause) ?_
    simp only [Station.deliver, isClash_own, if_true, Station.reportClash_eq, Station.receiveTrip, Bool.false_eq_true, if_false,
      Station.recordControl_own]
    rfl
  · refine clash (body := .go fp pass whole) ?_
    simp only [Station.deliver, isClash_own, if_true, Station.reportClash_eq, Station.receiveGo_peer, Station.recordControl_own]
    exact if_neg (by rwa [Station.clashed_armed, Station.clashed_matches])
  · refine clash (body := .go fp pass whole) ?_
    simp only [Station.deliver, isClash_own, if_true, Station.reportClash_eq, Station.receiveGo_peer, Station.recordControl_own]
    exact if_pos (by rwa [Station.clashed_armed, Station.clashed_matches])
  · exact Station.clashed_latched answers.1
  · refine clash (body := .resume fp pass whole) ?_
    simp only [Station.deliver, isClash_own, if_true, Station.reportClash_eq, Station.receiveResume_eq, Station.recordControl_own,
      Station.clashed_matches]
    exact (if_pos answers).trans (if_neg (latched_of_link (Station.clashed_latched answers.1)))
  · refine clash (body := .resume fp pass whole) ?_
    simp only [Station.deliver, isClash_own, if_true, Station.reportClash_eq, Station.receiveResume_eq, Station.recordControl_own,
      Station.clashed_matches]
    exact if_neg passes

end Sys2Proof.Machine
end
section
/-! ESTOP, THE SUPPLY AND THE RESET LINE (R166, R193). -/

namespace Sys2Proof.Machine

section
variable {s : State}

/-- An event of the configured station leaves it as it is without a configuration (R137, R166). -/
theorem Station.whenConfigured_none {st : Station} (unconfigured : st.config = none) (f : ConfigRecord → Station → Station) :
    st.whenConfigured f = st := by
  cases running : st.running <;> simp only [whenConfigured, running, unconfigured]

/-- A meaning that leaves the station leaves the state. -/
theorem State.act_still {f : Station → Station} (still : f s.station = s.station) : s.act f = .next s := by
  rw [State.act, still]

theorem State.act_configured_off (off : s.station.running = false) (f : ConfigRecord → Station → Station) :
    s.act (fun st => st.whenConfigured f) = .next s := act_still (Station.whenConfigured_off off f)

theorem State.act_running_off (off : s.station.running = false) (f : Station → Station) :
    s.act (fun st => if st.running then f st else st) = .next s := act_still (by simp [off])

/-- What ESTOP becoming active does in a configured station that runs (R166). -/
theorem exec_estopActive_configured {cfg : ConfigRecord} (runs : s.station.RunsIn cfg) : exec .estopActive s =
    .next (s.withStation (if s.station.sup.estopTaken = some true then { s.station with estopLine := true }
      else ({ s.station with estopLine := true } : Station).estopRises cfg)) :=
  congrArg (fun st => Host.Outcome.next (s.withStation st))
    (Station.whenConfigured_runs (st := { s.station with estopLine := true }) runs _)

theorem exec_estopInactive_configured {cfg : ConfigRecord} (runs : s.station.RunsIn cfg) : exec .estopInactive s =
    .next (s.withStation (({ s.station with estopLine := false } : Station).estopFalls)) :=
  congrArg (fun st => Host.Outcome.next (s.withStation st))
    (Station.whenConfigured_runs (st := { s.station with estopLine := false }) runs _)

end

/-- Settles O51: ESTOP while the station runs, the starts anew, and the stillness while it does not run. -/
theorem lineCommandsDecide : Obligations.LineCommandsDecide := by
  unfold Obligations.LineCommandsDecide
  refine ⟨fun s running => ⟨fun cfg config untaken => ?_, fun cfg config taken => ?_, fun cfg config => ?_,
    fun unconfigured => ⟨?_, ?_⟩⟩, fun s => ⟨rfl, rfl, rfl, fun active => ?_, fun inactive => ?_⟩, fun s off => ?still⟩
  · rw [exec_estopActive_configured ⟨running, config⟩, if_neg untaken]
    rfl
  · rw [exec_estopActive_configured ⟨running, config⟩, if_pos taken]
  · rw [exec_estopInactive_configured ⟨running, config⟩]
    rfl
  · exact congrArg (fun st => Host.Outcome.next (s.withStation st))
      (Station.whenConfigured_none (st := { s.station with estopLine := true }) unconfigured _)
  · exact congrArg (fun st => Host.Outcome.next (s.withStation st))
      (Station.whenConfigured_none (st := { s.station with estopLine := false }) unconfigured _)
  · exact congrArg (fun st => Host.Outcome.next (s.withStation st)) (if_pos active)
  · exact State.act_still (if_neg (by simp [inactive]))
  case still =>
    have configured (f : ConfigRecord → Station → Station) := State.act_configured_off off f
    have notRunning (p : Bool) : ¬ ((s.station.running && p) = true) := by simp [off]
    dsimp only
    refine ⟨fun r => ?_, fun f => State.act_running_off off (·.frameCompletes f), fun b => State.act_running_off off (·.takeHostByte b),
      fun inA inB => State.act_running_off off fun st => match st.config with
        | none => st.partialTick
        | some cfg => st.configuredUpdate cfg inA inB,
      fun k => configured _, fun frame => configured _, fun f mark => ?_, ?_, ?_, ?_⟩
    · rw [exec_commandOf, Station.hostRequest_off off]
      rfl
    · obtain ⟨sender, body⟩ := f
      cases body <;> exact configured _
    · simp only [List.forall_mem_cons]
      exact ⟨State.act_still (if_neg (notRunning _)), State.act_still (if_neg (notRunning _)), State.act_running_off off (·.frameSent),
        configured _, configured _, configured _, configured _, configured _, configured _, configured _, configured _,
        configured _, configured _, configured _, configured _, nofun⟩
    · exact congrArg (fun st => Host.Outcome.next (s.withStation st))
        (Station.whenConfigured_off (st := { s.station with estopLine := true }) off _)
    · exact congrArg (fun st => Host.Outcome.next (s.withStation st))
        (Station.whenConfigured_off (st := { s.station with estopLine := false }) off _)

end Sys2Proof.Machine
end
section
/-! FRAMES READ BACK (R123, R176, R195 to R198). -/

namespace Sys2Proof.Machine

/-! ### Fields -/

/-- A word's bytes, least significant first, read back as the word (R195). -/
theorem ofNat_ofLe_leBytes {w n : Nat} (x : BitVec w) (wide : 2 ^ w = 256 ^ n := by rfl) :
    BitVec.ofNat w (ofLe (leBytes n x.toNat)) = x := by
  rw [ofLe_leBytes, ← wide, Nat.mod_eq_of_lt x.isLt, BitVec.ofNat_toNat, BitVec.setWidth_eq]

theorem ofLe_word16 (x : BitVec 16) : BitVec.ofNat 16 (ofLe (leBytes 2 x.toNat)) = x := ofNat_ofLe_leBytes x
theorem ofLe_word24 (x : BitVec 24) : BitVec.ofNat 24 (ofLe (leBytes 3 x.toNat)) = x := ofNat_ofLe_leBytes x
theorem ofLe_word32 (x : BitVec 32) : BitVec.ofNat 32 (ofLe (leBytes 4 x.toNat)) = x := ofNat_ofLe_leBytes x
theorem ofLe_word48 (x : BitVec 48) : BitVec.ofNat 48 (ofLe (leBytes 6 x.toNat)) = x := ofNat_ofLe_leBytes x

theorem ofNat_ofLe_byte (b : Byte) : BitVec.ofNat 8 (ofLe [b]) = b := by
  rw [ofLe, ofLe, Nat.mul_zero, Nat.add_zero, BitVec.ofNat_toNat, BitVec.setWidth_eq]

theorem ofBe_beBytes (n v : Nat) : ofBe (beBytes n v) = v % 256 ^ n := by
  rw [ofBe, beBytes, List.reverse_reverse, ofLe_leBytes]

/-- A word's bytes, most significant first, read back as the word (R195). -/
theorem ofNat_ofBe_beBytes {w n : Nat} (x : BitVec w) (wide : 2 ^ w = 256 ^ n := by rfl) :
    BitVec.ofNat w (ofBe (beBytes n x.toNat)) = x := by
  rw [ofBe, beBytes, List.reverse_reverse, ofNat_ofLe_leBytes x wide]

theorem ofBe_word16 (x : BitVec 16) : BitVec.ofNat 16 (ofBe (beBytes 2 x.toNat)) = x := ofNat_ofBe_beBytes x
theorem ofBe_word24 (x : BitVec 24) : BitVec.ofNat 24 (ofBe (beBytes 3 x.toNat)) = x := ofNat_ofBe_beBytes x
theorem ofBe_word32 (x : BitVec 32) : BitVec.ofNat 32 (ofBe (beBytes 4 x.toNat)) = x := ofNat_ofBe_beBytes x
theorem ofBe_word48 (x : BitVec 48) : BitVec.ofNat 48 (ofBe (beBytes 6 x.toNat)) = x := ofNat_ofBe_beBytes x

theorem ofNat_ofBe_byte (b : Byte) : BitVec.ofNat 8 (ofBe [b]) = b := ofNat_ofLe_byte b

/-! ### Requests -/

section
variable {n m k v : Nat} {rest : List Byte}

theorem fieldAt_leBytes : fieldAt (leBytes n v ++ rest) 0 n = ofLe (leBytes n v) := by
  rw [fieldAt, List.drop_zero, List.take_left' (length_leBytes n v)]

theorem fieldAt_leBytes_end : fieldAt (leBytes n v) 0 n = ofLe (leBytes n v) := by
  simpa using fieldAt_leBytes (n := n) (v := v) (rest := [])

theorem fieldAt_leBytes_skip (past : m ≤ k) : fieldAt (leBytes m v ++ rest) k n = fieldAt rest (k - m) n := by
  rw [fieldAt, fieldAt, List.drop_append, List.drop_eq_nil_of_le (by rw [length_leBytes]; exact past), List.nil_append,
    length_leBytes]

theorem fieldAt_byte (b : Byte) : fieldAt (b :: rest) 0 1 = ofLe [b] := rfl

theorem fieldAt_byte_skip (b : Byte) (past : 1 ≤ k) : fieldAt (b :: rest) k n = fieldAt rest (k - 1) n := by
  obtain ⟨j, rfl⟩ := Nat.exists_eq_add_of_le' past
  rfl

end

/-- The record read from its 60 bytes, field by field (R197). -/
theorem recordOf_recordBytes (r : ConfigRecord) : recordOf (recordBytes r) = r := by
  unfold recordOf recordBytes
  simp only [List.append_assoc]
  simp only [List.cons_append, List.nil_append]
  simp only [fieldAt_leBytes, fieldAt_leBytes_skip, fieldAt_byte, fieldAt_byte_skip, Nat.reduceLeDiff, Nat.reduceSub]
  simp only [ofNat_ofLe_byte, ofLe_word16, ofLe_word24, ofLe_word32]

theorem samplesOf_flatMap : ∀ samples : List Sample, samplesOf (samples.flatMap sampleBytes) = samples
  | [] => rfl
  | x :: rest => by
    have first : BitVec.ofNat 16 (ofLe (leBytes 2 x.toNat)) = x := ofLe_word16 x
    rw [List.flatMap_cons]
    exact congrArg₂ List.cons first (samplesOf_flatMap rest)

theorem length_samples (samples : List Sample) : (samples.flatMap sampleBytes).length = 2 * samples.length := by
  induction samples with
  | nil => rfl
  | cons x rest ih =>
    rw [List.flatMap_cons, List.length_append, ih, sampleBytes, length_leBytes, List.length_cons]
    omega

/-- The size of a request's payload is one that its kind allows (R176, R196). -/
theorem sizeAllowed_payloadOf (r : Request) (fits : ∀ id part samples, r = .segmentData id part samples → samples.length ≤ 53) :
    sizeAllowed (kindOf r) (payloadOf r).length = some true := by
  cases r with
  | segmentData id part samples =>
    have room := fits id part samples rfl
    have size : (payloadOf (.segmentData id part samples)).length = 5 + 2 * samples.length := by
      simp only [payloadOf, List.length_append, length_samples, length_leBytes, List.length_cons, List.length_nil]
    rw [size]
    exact congrArg some (decide_eq_true (by omega))
  | start position => cases position <;> rfl
  | configure record =>
    have size : (payloadOf (.configure record)).length = 60 := by
      show (recordBytes record).length = 60
      unfold recordBytes
      simp only [List.length_append, length_leBytes, List.length_cons, List.length_nil]
    rw [size]
    rfl
  | _ => rfl

/-- A request read from its payload under its kind (R196). -/
theorem requestOf_payloadOf (r : Request) : requestOf (kindOf r) (payloadOf r) = r := by
  cases r with
  | configure record => exact congrArg Request.configure (recordOf_recordBytes record)
  | segmentData id part samples =>
    show Request.segmentData (BitVec.ofNat 8 (ofLe [id])) (BitVec.ofNat 32 (ofLe (leBytes 4 part.toNat)))
      (samplesOf (samples.flatMap sampleBytes)) = _
    rw [ofNat_ofLe_byte, ofLe_word32, samplesOf_flatMap]
  | segmentOpen id length expected =>
    show Request.segmentOpen (BitVec.ofNat 8 (ofLe [id])) (BitVec.ofNat 32 (ofLe (leBytes 4 length.toNat)))
      (BitVec.ofNat 16 (ofLe (leBytes 2 expected.toNat))) = _
    rw [ofNat_ofLe_byte, ofLe_word32, ofLe_word16]
  | segmentDiscard id | segmentInfo id | playlistRead id | peerRead id | reportRate id =>
    exact congrArg _ (ofNat_ofLe_byte id)
  | playlistAppend id repeats wait =>
    show Request.playlistAppend (BitVec.ofNat 8 (ofLe [id])) (BitVec.ofNat 16 (ofLe (leBytes 2 repeats.toNat)))
      (BitVec.ofNat 8 (ofLe [wait])) = _
    rw [ofNat_ofLe_byte, ofLe_word16, ofNat_ofLe_byte]
  | schedulePasses x | acknowledge x | setLevel x | eventsClear x => exact congrArg _ (ofLe_word16 x)
  | sideSend word => exact congrArg _ (ofLe_word32 word)
  | start position =>
    cases position with
    | none => rfl
    | some p =>
      obtain ⟨pass, whole⟩ := p
      show Request.start (some (BitVec.ofNat 32 (ofLe (leBytes 4 pass.toNat)), BitVec.ofNat 48 (ofLe (leBytes 6 whole.toNat)))) = _
      rw [ofLe_word32, ofLe_word48]
  | _ => rfl

theorem verdict_frameOf (r : Request) (fits : ∀ id part samples, r = .segmentData id part samples → samples.length ≤ 53) :
    verdict (frameOf r) = .request r := by
  rw [frameOf, verdict, if_neg (not_not.mpr rfl), sizeAllowed_payloadOf r fits]
  exact congrArg Verdict.request (requestOf_payloadOf r)

/-! ### Rig link frames -/

theorem RigFrame.key_lt (f : RigFrame) : f.key < 256 := by
  have sender := f.sender.isLt
  have cls : f.body.cls ≤ 2 := by cases f.body <;> simp [FrameBody.cls]
  unfold key
  omega

theorem FrameBody.classOfKind_kindByte (b : FrameBody) : classOfKind b.kindByte = b.cls := by cases b <;> rfl

theorem FrameBody.frameLength_kindByte (b : FrameBody) : frameLength b.kindByte = some (b.fieldBytes.length + 4) := by
  cases b <;> rfl

/-- A field of a rig link frame: the number that `n` bytes from an offset on write, most significant first (R195). -/
def linkField (bytes : List Byte) (offset n : Nat) : Nat := ofBe ((bytes.drop offset).take n)

section
variable {n m k v : Nat} {rest : List Byte}

theorem length_beBytes (n v : Nat) : (beBytes n v).length = n := by rw [beBytes, List.length_reverse, length_leBytes]

theorem linkField_beBytes : linkField (beBytes n v ++ rest) 0 n = ofBe (beBytes n v) := by
  rw [linkField, List.drop_zero, List.take_left' (length_beBytes n v)]

theorem linkField_beBytes_skip (past : m ≤ k) : linkField (beBytes m v ++ rest) k n = linkField rest (k - m) n := by
  rw [linkField, linkField, List.drop_append, List.drop_eq_nil_of_le (by rw [length_beBytes]; exact past), List.nil_append,
    length_beBytes]

theorem linkField_byte (b : Byte) : linkField (b :: rest) 0 1 = ofBe [b] := rfl

theorem linkField_byte_skip (b : Byte) (past : 1 ≤ k) : linkField (b :: rest) k n = linkField rest (k - 1) n := by
  obtain ⟨j, rfl⟩ := Nat.exists_eq_add_of_le' past
  rfl

end

theorem bodyOfBytes_trip (bytes : List Byte) : bodyOfBytes 0x01#8 bytes = .trip (BitVec.ofNat 8 (linkField bytes 2 1)) := rfl

theorem bodyOfBytes_go (bytes : List Byte) : bodyOfBytes 0x02#8 bytes =
    .go (BitVec.ofNat 16 (linkField bytes 2 2)) (BitVec.ofNat 32 (linkField bytes 4 4))
      (BitVec.ofNat 48 (linkField bytes 8 6)) := rfl

theorem bodyOfBytes_hold (bytes : List Byte) : bodyOfBytes 0x03#8 bytes = .hold (BitVec.ofNat 16 (linkField bytes 2 2)) := rfl

theorem bodyOfBytes_resume (bytes : List Byte) : bodyOfBytes 0x04#8 bytes =
    .resume (BitVec.ofNat 16 (linkField bytes 2 2)) (BitVec.ofNat 32 (linkField bytes 4 4))
      (BitVec.ofNat 48 (linkField bytes 8 6)) := rfl

theorem bodyOfBytes_beat (bytes : List Byte) : bodyOfBytes 0x05#8 bytes = .beat
    { state := BitVec.ofNat 8 (linkField bytes 2 1), group := BitVec.ofNat 8 (linkField bytes 3 1),
      flags := BitVec.ofNat 8 (linkField bytes 4 1), fingerprint := BitVec.ofNat 16 (linkField bytes 5 2),
      pass := BitVec.ofNat 16 (linkField bytes 7 2), whole := BitVec.ofNat 32 (linkField bytes 9 4),
      fraction := BitVec.ofNat 16 (linkField bytes 13 2), reasons := BitVec.ofNat 16 (linkField bytes 15 2),
      share := BitVec.ofNat 24 (linkField bytes 17 3) } := rfl

/-- The fields of every kind read back from the frame's bytes, whatever bytes follow them (R198). -/
theorem FrameBody.bodyOfBytes_fieldBytes (b : FrameBody) (key kind' : Byte) (rest : List Byte) :
    bodyOfBytes b.kindByte (key :: kind' :: (b.fieldBytes ++ rest)) = b := by
  cases b <;> rw [kindByte, fieldBytes]
  case trip cause => exact congrArg FrameBody.trip (ofNat_ofBe_byte cause)
  case go fp pass whole =>
    rw [bodyOfBytes_go]
    simp only [List.append_assoc, linkField_beBytes, linkField_beBytes_skip, linkField_byte_skip, Nat.reduceLeDiff,
      Nat.reduceSub, ofBe_word16, ofBe_word32, ofBe_word48]
  case hold reasons =>
    rw [bodyOfBytes_hold]
    simp only [linkField_beBytes, linkField_byte_skip, Nat.reduceLeDiff, Nat.reduceSub, ofBe_word16]
  case resume fp pass whole =>
    rw [bodyOfBytes_resume]
    simp only [List.append_assoc, linkField_beBytes, linkField_beBytes_skip, linkField_byte_skip, Nat.reduceLeDiff,
      Nat.reduceSub, ofBe_word16, ofBe_word32, ofBe_word48]
  case beat f =>
    rw [bodyOfBytes_beat]
    simp only [List.append_assoc, List.cons_append, List.nil_append, linkField_beBytes, linkField_beBytes_skip,
      linkField_byte, linkField_byte_skip, Nat.reduceLeDiff, Nat.reduceSub, ofNat_ofBe_byte, ofBe_word16, ofBe_word24,
      ofBe_word32]

theorem RigFrame.toNat_key (f : RigFrame) : (BitVec.ofNat 8 f.key).toNat = f.key := by
  rw [BitVec.toNat_ofNat]
  exact Nat.mod_eq_of_lt f.key_lt

theorem RigFrame.key_div (f : RigFrame) : f.key / 32 = f.body.cls := by
  have sender := f.sender.isLt
  unfold key
  omega

theorem RigFrame.key_mod (f : RigFrame) : f.key % 32 = f.sender.val := by
  have sender := f.sender.isLt
  unfold key
  omega

theorem RigFrame.length_checked (f : RigFrame) : f.checked.length = f.body.fieldBytes.length + 2 := rfl

/-- What the checks of R133 pass on: bytes whose key, kind and CRC are those of a frame's length. -/
theorem readFrame_of_checks {key kind : Byte} {tail : List Byte} {n : Nat} (sized : frameLength kind = some n)
    (long : n ≤ (key :: kind :: tail).length) (cls : key.toNat / 32 = classOfKind kind) (sender : key.toNat % 32 < 24)
    (crc : (crc16 crcInitLink ((key :: kind :: tail).take (n - 2))).toNat =
      ofBe (((key :: kind :: tail).take n).drop (n - 2))) :
    readFrame (key :: kind :: tail) =
      some { sender := ⟨key.toNat % 32, sender⟩, body := bodyOfBytes kind (key :: kind :: tail) } := by
  rw [readFrame, sized]
  exact dif_pos ⟨long, cls, sender, crc⟩

/-- A rig link frame read back from its bytes and whatever follows its CRC (R133, R198). -/
theorem readFrame_bytes (f : RigFrame) (rest : List Byte) : readFrame (f.bytes ++ rest) = some f := by
  let crc := beBytes 2 (crc16 crcInitLink f.checked).toNat
  have spelled : f.bytes ++ rest = f.checked ++ (crc ++ rest) := List.append_assoc ..
  have shown : f.bytes ++ rest = BitVec.ofNat 8 f.key :: f.body.kindByte :: (f.body.fieldBytes ++ (crc ++ rest)) := spelled
  have crcLength : crc.length = 2 := length_beBytes ..
  have upToFields : (f.bytes ++ rest).take (f.body.fieldBytes.length + 4 - 2) = f.checked := by
    rw [spelled]
    exact List.take_left' f.length_checked
  have crcBytes : ((f.bytes ++ rest).take (f.body.fieldBytes.length + 4)).drop (f.body.fieldBytes.length + 4 - 2) = crc := by
    rw [List.drop_take, spelled, List.drop_left' (i := f.body.fieldBytes.length + 4 - 2) f.length_checked]
    exact List.take_left' (by omega)
  rw [shown] at upToFields crcBytes ⊢
  rw [readFrame_of_checks f.body.frameLength_kindByte]
  · simp only [f.toNat_key, f.key_mod, f.body.bodyOfBytes_fieldBytes]
  · simp only [List.length_cons, List.length_append, crcLength]
    omega
  · rw [f.toNat_key, f.key_div, f.body.classOfKind_kindByte]
  · rw [f.toNat_key, f.key_mod]
    exact f.sender.isLt
  · rw [upToFields, crcBytes, ofBe_beBytes]
    exact (Nat.mod_eq_of_lt (BitVec.isLt _)).symm

/-- Settles O60: a frame's key, kind and fields stand at their offsets and its CRC is over them; a request's payload has the
size of its kind and its fields read back one by one. -/
theorem framesReadBack : Obligations.FramesReadBack := by
  unfold Obligations.FramesReadBack
  exact ⟨readFrame_bytes, verdict_frameOf⟩

end Sys2Proof.Machine
end
